-- ==== Sys2Proof/Word.lean ====
section
/-! DEFINITION. The byte: the only word the hardware has (R12, R70: every buffer access is one byte wide). -/

namespace Sys2Proof

/-- A byte of 8 bits; bit 0 is the least significant bit and the first on the wire (R12, R67). -/
abbrev Byte := BitVec 8

end Sys2Proof
end

