-- ==== Sys2Proof/Config.lean ====
section
/-! DEFINITION. What a built device fixes (R8 to R11): capacities as constants, the build-time parameters as one
structure of plain data, and the OPEN parameters as opaque constants, of which nothing is known. -/

namespace Sys2Proof

/-- The two execution variants, "never mixed within one deployment" (R8, R392). -/
inductive Variant where
  | polled
  | edgeDriven
deriving DecidableEq, Repr, Inhabited

/-- One range of microseconds; a duration `d` lies in it iff `lo ≤ d < hi` (R93). -/
structure PulseRange where
  lo : Nat
  hi : Nat
deriving DecidableEq, Repr, Inhabited

/-- The range table (R36, R92). Tables that R10 does not allow are accepted (U16, R391; notes: assumption 23). -/
structure RangeTable where
  presyncReset : PulseRange
  presync : PulseRange
  sync : PulseRange
  dataBitLow : PulseRange
deriving DecidableEq, Repr, Inhabited

/-- `WRITE_WAVEFORM` (R9, R155) as far as the bus can show it: the duration of the low pulse that a cell written
with bit 0 or bit 1 makes. Only R156 constrains it (`Params.waveformOk`). Notes: assumption 13. -/
structure Waveform where
  zeroUs : Nat
  oneUs : Nat
deriving DecidableEq, Repr, Inhabited

/-- The build-time parameters of R9 that are plain data. No step writes them (R36, R392). Notes: assumption 1. -/
structure Params where
  variant : Variant
  ranges : RangeTable
  noiseMaxUs : Nat
  capDescriptor : Vector Byte 9
  waveform : Waveform
deriving DecidableEq, Repr, Inhabited

namespace Config

/-- `MSG_BUDGET` (R9, R211): the data bytes of one player message. -/
def msgBudget : Nat := 10

/-- `MSG_BITS`, `OUT_BITS` (R9): the bits of a player message and of the Outbound Buffer. -/
def msgBits : Nat := 88

/-- `EVQ_CAP` (R9, R39): the capacity of the Event Queue. -/
def evqCap : Nat := 10

/-- `CMQ_CAP` (R9, R42): the capacity of the completed-message queue. -/
def cmqCap : Nat := 10

/-- The last index of the LCD Text Accumulator that a character may take (R186): index 63 stays free for the
terminator. -/
def lcdLastChar : Nat := 62

/-- `VOL_FF_LEVEL` (R9, R175): the level reported for raw volume 0xFF. -/
def volFFLevel : Byte := 30

/-- The source's default range table (R92). -/
def defaultRanges : RangeTable where
  presyncReset := ⟨39000, 45000⟩
  presync := ⟨900, 1600⟩
  sync := ⟨190, 250⟩
  dataBitLow := ⟨100, 250⟩

/-- `VARIANT` of the built device (R8): OPEN. -/
opaque variant : Variant

/-- `NOISE_MAX_US` (R9, D3): OPEN. -/
opaque noiseMaxUs : Nat

/-- `CAP_DESCRIPTOR[0..8]` (R9, D17): OPEN. -/
opaque capDescriptor : Vector Byte 9

/-- `WRITE_WAVEFORM` (R9, D34): OPEN. -/
opaque waveform : Waveform

/-- `TRACK_DECODE` (R9, R181, D19): OPEN, a total function of the four payload bytes alone, giving the track index
and the indicator-shown flag. Notes: assumption 6. -/
opaque trackDecode : Byte → Byte → Byte → Byte → Nat × Bool

/-- The free values: byte number `n` that the edge-driven decoder reads outside a captured message (R74, U10: "any
value, fresh per byte"). Notes: assumption 5. -/
opaque freeByte : Nat → Byte

/-- The parameters of the built device. -/
def built : Params where
  variant := variant
  ranges := defaultRanges
  noiseMaxUs := noiseMaxUs
  capDescriptor := capDescriptor
  waveform := waveform

end Config

end Sys2Proof
end

