-- ==== Sys2Proof/Machine/Classifier.lean ====
section
/-! DEFINITION. The Timing Classifier (R130 to R139): a pure function of a duration and the range table. -/

namespace Sys2Proof.Machine

/-- `PulseSymbol` (R16): derived, never stored (R44). -/
inductive PulseSymbol where
  | presyncReset
  | presync
  | sync
  | dataBitZero
  | dataBitOne
  | invalid
deriving DecidableEq, Repr

/-- The place of a pulse in a frame, which chooses the test (R136). -/
inductive PulsePosition where
  | start
  | syncPos
  | data
deriving DecidableEq, Repr

/-- `inRange` (R131): closed at the lower bound, open at the upper. -/
def inRange (d : Nat) (r : PulseRange) : Bool := decide (r.lo ≤ d) && decide (d < r.hi)

/-- `classifyStart` (R132): the first pulse of a frame. -/
def classifyStart (t : RangeTable) (d : Nat) : PulseSymbol :=
  if inRange d t.presyncReset then .presyncReset
  else if inRange d t.presync then .presync
  else .invalid

/-- `classifySync` (R133): the second pulse of a frame. -/
def classifySync (t : RangeTable) (d : Nat) : PulseSymbol :=
  if inRange d t.sync then .sync else .invalid

/-- `classifyData` (R134): a bit cell; never invalid. -/
def classifyData (t : RangeTable) (d : Nat) : PulseSymbol :=
  if inRange d t.dataBitLow then .dataBitZero else .dataBitOne

/-- `dataBit` (R134): "bit = NOT(duration in data-bit-low range)". -/
def dataBit (t : RangeTable) (d : Nat) : Bool := !inRange d t.dataBitLow

/-- The classifier by position (R136). -/
def classify (t : RangeTable) : PulsePosition → Nat → PulseSymbol
  | .start, d => classifyStart t d
  | .syncPos, d => classifySync t d
  | .data, d => classifyData t d

/-- The duration of the low pulse that a written bit makes (`WRITE_WAVEFORM`, R155). -/
def writtenPulse (w : Waveform) (b : Bool) : Nat := if b then w.oneUs else w.zeroUs

/-- R10: every range has `LO < HI`, and the two ranges tested on one pulse do not overlap. DESIGN CHOICE (U16 refuses other
tables, R391 leaves it to the model): no step and no invariant asks for it, other tables are accepted, and the variants then
differ as R391 says. Notes: assumption 23. -/
def adjacentRangeSafe (t : RangeTable) : Prop :=
  t.presyncReset.lo < t.presyncReset.hi ∧ t.presync.lo < t.presync.hi ∧ t.sync.lo < t.sync.hi ∧
    t.dataBitLow.lo < t.dataBitLow.hi ∧ t.presync.hi ≤ t.presyncReset.lo

/-- R156: a written cell reads back as the bit written, and in the edge-driven variant is neither a presync nor
noise. -/
def waveformOk (p : Params) : Prop :=
  (∀ b, dataBit p.ranges (writtenPulse p.waveform b) = b) ∧
    (p.variant = .edgeDriven → ∀ b, inRange (writtenPulse p.waveform b) p.ranges.presync = false ∧
      writtenPulse p.waveform b ≤ p.noiseMaxUs)

end Sys2Proof.Machine
end

