-- ==== Sys2Proof/Syntax.lean ====
section
/-! DEFINITION. The instructions: the twelve packet types of R112, one constructor per row of spec/opcode_table.json,
each with its payload bytes in stream order (R105). -/

namespace Sys2Proof

/-- A packet: a type byte (the constructor) and the payload its type fixes (R104, R112). -/
inductive Instr where
  /-- `TERM`, 0x00 (R172). -/
  | term
  /-- `CAPREQ`, 0x01 (R173). -/
  | capreq (v : Byte)
  /-- `LCDCLR`, 0x08 (R174). -/
  | lcdclr
  /-- `VOL`, 0x40 (R175). -/
  | vol (v : Byte)
  /-- `MODE`, 0x41 (R176). -/
  | mode (v : Byte)
  /-- `REC`, 0x42 (R177). -/
  | record (v : Byte)
  /-- `BATT`, 0x43 (R178). -/
  | batt (v : Byte)
  /-- `EQ`, 0x46 (R179). -/
  | eqind (v : Byte)
  /-- `ALARM`, 0x47 (R180). -/
  | alarm (v : Byte)
  /-- `TRACK`, 0xA0 (R181). -/
  | track (p0 p1 p2 p3 : Byte)
  /-- `LCD`, 0xC8 (R182): segment type, unknown byte, seven characters (R106). -/
  | lcd (seg unk c0 c1 c2 c3 c4 c5 c6 : Byte)
  /-- `UNKNOWN`, any other type byte `t` (R188). -/
  | unknown (t : Byte)
deriving DecidableEq, Repr

end Sys2Proof
end

