-- ==== Sys2Proof/WellFormed.lean ====
section
/-! DEFINITION. Which instruction terms stand for packets: all, but an `unknown` whose type byte is a known one. -/

namespace Sys2Proof

/-- "A closed set of IDs" (R114): the eleven known type bytes. -/
def knownTypes : List Byte := [0x00, 0x01, 0x08, 0x40, 0x41, 0x42, 0x43, 0x46, 0x47, 0xA0, 0xC8]

/-- A term is well formed unless it names a known type byte unknown (R114, R188). -/
def Instr.wellFormed : Instr → Bool
  | .term => true
  | .capreq _ => true
  | .lcdclr => true
  | .vol _ => true
  | .mode _ => true
  | .record _ => true
  | .batt _ => true
  | .eqind _ => true
  | .alarm _ => true
  | .track _ _ _ _ => true
  | .lcd _ _ _ _ _ _ _ _ _ => true
  | .unknown t => !knownTypes.contains t

end Sys2Proof
end

