-- ==== Sys2Proof/Decode.lean ====
section
/-! DEFINITION. The decoder, total on any bytes, and the encoder after it (R104, R105, R112, R116). -/

namespace Sys2Proof

/-- What the dispatcher answers for a type byte: the number of payload bytes, or the sentinel (R170). -/
inductive PacketResult where
  | payload (n : Nat)
  | unknownType
deriving DecidableEq, Repr

/-- The dispatch table (R112). 0x00 is no row of it, so a direct dispatch of 0x00 answers the sentinel (R172). -/
def dispatchTable (t : Byte) : PacketResult :=
  if t = 0x01 then .payload 1
  else if t = 0x08 then .payload 0
  else if t = 0x40 then .payload 1
  else if t = 0x41 then .payload 1
  else if t = 0x42 then .payload 1
  else if t = 0x43 then .payload 1
  else if t = 0x46 then .payload 1
  else if t = 0x47 then .payload 1
  else if t = 0xA0 then .payload 4
  else if t = 0xC8 then .payload 9
  else .unknownType

/-- How many payload bytes are read after type byte `t`: none for the terminator and for an unknown type
(R172, R188, R190). -/
def payloadBytes (t : Byte) : Nat :=
  match dispatchTable t with
  | .payload n => n
  | .unknownType => 0

/-- Why bytes are no packet. -/
inductive DecodeError where
  /-- There is no type byte. -/
  | noTypeByte
  /-- Fewer payload bytes follow the type byte `t` than its format has (R105). -/
  | truncated (t : Byte)
deriving DecidableEq, Repr

/-- The decoder's answer: a packet and the bytes after it, or a rejection by name. -/
inductive DecodeResult where
  | ok (i : Instr) (rest : List Byte)
  | rejected (e : DecodeError)
deriving DecidableEq, Repr

/-- Format P1: one payload byte (R105). -/
def decodeP1 (t : Byte) (mk : Byte → Instr) : List Byte → DecodeResult
  | v :: rest => .ok (mk v) rest
  | [] => .rejected (.truncated t)

/-- Format P4: four payload bytes (R105, R107). -/
def decodeP4 (t : Byte) : List Byte → DecodeResult
  | p0 :: p1 :: p2 :: p3 :: rest => .ok (.track p0 p1 p2 p3) rest
  | _ => .rejected (.truncated t)

/-- Format P9: nine payload bytes (R105, R106). -/
def decodeP9 (t : Byte) : List Byte → DecodeResult
  | seg :: unk :: c0 :: c1 :: c2 :: c3 :: c4 :: c5 :: c6 :: rest =>
    .ok (.lcd seg unk c0 c1 c2 c3 c4 c5 c6) rest
  | _ => .rejected (.truncated t)

/-- Decode the packet at the head of a byte stream: the type byte alone fixes the format (R112, R116). -/
def decode : List Byte → DecodeResult
  | [] => .rejected .noTypeByte
  | t :: rest =>
    if t = 0x00 then .ok .term rest
    else if t = 0x01 then decodeP1 t .capreq rest
    else if t = 0x08 then .ok .lcdclr rest
    else if t = 0x40 then decodeP1 t .vol rest
    else if t = 0x41 then decodeP1 t .mode rest
    else if t = 0x42 then decodeP1 t .record rest
    else if t = 0x43 then decodeP1 t .batt rest
    else if t = 0x46 then decodeP1 t .eqind rest
    else if t = 0x47 then decodeP1 t .alarm rest
    else if t = 0xA0 then decodeP4 t rest
    else if t = 0xC8 then decodeP9 t rest
    else .ok (.unknown t) rest

/-- The encoder: the bytes of a packet in stream order (R105, R112). -/
def encode : Instr → List Byte
  | .term => [0x00]
  | .capreq v => [0x01, v]
  | .lcdclr => [0x08]
  | .vol v => [0x40, v]
  | .mode v => [0x41, v]
  | .record v => [0x42, v]
  | .batt v => [0x43, v]
  | .eqind v => [0x46, v]
  | .alarm v => [0x47, v]
  | .track p0 p1 p2 p3 => [0xA0, p0, p1, p2, p3]
  | .lcd seg unk c0 c1 c2 c3 c4 c5 c6 => [0xC8, seg, unk, c0, c1, c2, c3, c4, c5, c6]
  | .unknown t => [t]

/-- The lowest `n` bytes of a number, the first byte of the stream in bits 7..0 (R117: byte 0 first). -/
def bytesOfNat : Nat → Nat → List Byte
  | 0, _ => []
  | n + 1, w => BitVec.ofNat 8 w :: bytesOfNat n (w / 256)

/-- The longest packet has ten bytes (R105); a captured message has eleven (R41). -/
def tableBytes (nbits w : Nat) : List Byte := bytesOfNat 11 (w % 2 ^ nbits)

/-- The instruction the decoder reads from a row of the opcode table: `nbits` bits numbered from the first byte's
bit 0, every bit above them 0. -/
def decodeTableWord (nbits w : Nat) : Option Instr :=
  match decode (tableBytes nbits w) with
  | .ok i _ => some i
  | .rejected _ => none

end Sys2Proof
end

