-- ==== Sys2Proof/Machine/State.lean ====
section
/-! DEFINITION. The machine's state as plain data: every piece of state of 10_state.md, the build-time configuration,
the inputs still to come, the outputs so far, and the model's own bookkeeping; the state after reset (R45). -/

namespace Sys2Proof.Machine

/-- `FrameState` (R24): where the edge-driven framer is in a frame. No numeric encoding (D38). -/
inductive FrameState where
  | awaitingMessage
  | beforeSync
  | inRemoteHeader
  | inPlayerHeader
  | playerSending
  | remoteSending
deriving DecidableEq, Repr

/-- The LCD sub-type (R40, R120). -/
inductive LcdSubType where
  | unknown
  | time
  | discTitle
  | trackTitle
deriving DecidableEq, Repr

/-- `RemoteEvent` (R40). `text` holds the character bytes; the null byte that follows them is implied
(`LcdText` in R184; notes: assumption 15). No rule produces `notImplemented` (R189). -/
inductive RemoteEvent where
  | none
  | lcdText (subType : LcdSubType) (text : List Byte)
  | trackNumber (trackIndex : Nat) (indicatorShown : Bool) (raw : Vector Byte 4)
  | volumeLevel (level : Byte)
  | batteryLevel (raw : Byte)
  | alarmIndicator (raw : Byte)
  | recordIndicator (raw : Byte)
  | eqIndicator (raw : Byte)
  | playbackMode (raw : Byte)
  | notImplemented
deriving DecidableEq, Repr

/-- A value on the diagnostic channel (R340), with the codes of R330 that have a diagnostic. -/
inductive Diag where
  | unknownType (t : Byte)
  | queueOverflow
  | capBadPayload (v : Byte)
  | outboundOverflow
  | bufferOverrun
  | lcdOverflow
deriving DecidableEq, Repr

/-- The error classes of R330. None is fatal (R331). -/
inductive ErrorClass where
  | timingError
  | protocolReset
  | unknownType (t : Byte)
  | checksumMismatch
  | queueOverflow
  | capBadPayload (v : Byte)
  | outboundOverflow
  | bufferOverrun
  | lcdOverflow
deriving DecidableEq, Repr

/-- A host command (R310), and the boot action of R375 (2). -/
inductive Command where
  | nextEvent
  | hasChecksumError
  | queueOutboundByte (v : Byte)
  | queueOutboundBit (b : Bool)
  | finalizeOutboundMessage
  /-- Polled variant only (R315). -/
  | pollFrame
  /-- Edge-driven variant only (R316). -/
  | decodeNext
  /-- "Register an edge-triggered callback" (R319, R375 (2)): edge-driven variant only. -/
  | registerEdgeCallback
deriving DecidableEq, Repr

/-- What a host command answers, for the commands that answer something (R310). -/
inductive HostResult where
  | event (e : RemoteEvent)
  | empty
  | checksumError (b : Bool)
  | decoded (b : Bool)
deriving DecidableEq, Repr

/-- Which agent moves next: the interrupt context, the main context (R346), or the reset pin (R370). -/
inductive Turn where
  | interrupt
  | main
  | powerOn
deriving DecidableEq, Repr

/-- What the main context is in the middle of: nothing, a phase of the polled frame call (R97, R243), or a message
decode (R213). The model's own field. -/
inductive Activity where
  | idle
  | awaitPresync
  | awaitSync
  | remoteHeader
  | playerHeader
  | decoding
deriving DecidableEq, Repr

/-- Where `readByte` takes its bytes: the bus (R152) or a private copy of a captured message (R153, R316). -/
inductive ByteSource where
  | bus
  | captured (m : Vector Byte 11)
deriving DecidableEq, Repr

/-- The direction of an edge of the bus line (R251). -/
inductive EdgeKind where
  | rising
  | falling
deriving DecidableEq, Repr

/-- The whole machine. -/
structure State where
  /-- Build-time parameters (R9); no step writes them. -/
  cfg : Params
  /-- `state` (R24). -/
  state : FrameState
  /-- `bitIdx` (R25). -/
  bitIdx : Nat
  /-- `flagsByte` (R26). -/
  flagsByte : Byte
  /-- `tLast` (R27). -/
  tLast : Nat
  /-- `csum` (R22). -/
  csum : Byte
  /-- `cursor` (R23). -/
  cursor : Nat
  /-- `isInitialized` (R30). -/
  isInitialized : Bool
  /-- `isReadyForText` (R30). -/
  isReadyForText : Bool
  /-- `hasOutboundData` (R30). -/
  hasOutboundData : Bool
  /-- `checksumError` (R32). -/
  checksumError : Bool
  /-- `MSG[0..10]` (R41, R61). -/
  msg : Vector Byte 11
  /-- `CMQ[0..9]` (R42, R64). -/
  cmq : Vector (Vector Byte 11) 10
  /-- `cmqHead` (R42). -/
  cmqHead : Nat
  /-- `cmqLen` (R42). -/
  cmqLen : Nat
  /-- `OUT[0..10]` (R37, R62). -/
  out : Vector Byte 11
  /-- `outCursor` (R37). -/
  outCursor : Nat
  /-- `LCD[0..63]` (R38, R63). -/
  lcd : Vector Byte 64
  /-- `lcdOff` (R38). -/
  lcdOff : Nat
  /-- `EVQ[0..9]` (R39, R66). -/
  evq : Vector RemoteEvent 10
  /-- `evCount` (R39). -/
  evCount : Nat
  /-- The free-running microsecond timer (R348). -/
  usNow : Nat
  /-- The level of the bus line, high when idle (R91, R375). -/
  lineHigh : Bool
  /-- The edge callback is registered (R45, R375 (2)). -/
  edgeEnabled : Bool
  /-- What the main context is in the middle of (model's own). -/
  activity : Activity
  /-- The byte source of the running decode (R153; model's own). -/
  src : ByteSource
  /-- The number of message bytes taken so far in this decode (R153; model's own). -/
  readIdx : Nat
  /-- `draining`, a local flag of the decode loop (R212). -/
  draining : Bool
  /-- The decode loop has met its terminator (R214; model's own). -/
  termSeen : Bool
  /-- `Diag(BufferOverrun)` was emitted for this message (R74; model's own). -/
  overrun : Bool
  /-- Input: the low pulses still to come, in microseconds (polled variant, R231, D43), those alone that a polled call
  measures (R387; notes: assumption 24). -/
  pulses : List Nat
  /-- Input: the edges still to come, each by the microseconds since the edge before it (edge-driven, R251). -/
  edges : List Nat
  /-- Input: the host commands still to come (R310). -/
  cmds : List Command
  /-- Input: which agent moves next (R75, R76). -/
  sched : List Turn
  /-- Output: the bits written to the bus, oldest first (R19, R155). -/
  tx : List Bool
  /-- Output: the diagnostic channel, oldest first (R19, R340). -/
  diags : List Diag
  /-- Output: the results of host commands, oldest first (R19). -/
  results : List HostResult
  /-- How many free values have been drawn (R74, U10; model's own). -/
  freeIdx : Nat
deriving DecidableEq, Repr

/-- Why the model has no next step. No behaviour of the hardware is a fault (R331). -/
inductive Fault where
  /-- A polled call (or its message decode) needs a pulse and the finite pulse stream has ended: "a call that runs
  out of pulses is stuck: it has no result, and nothing after it happens" (R382, U17). Raised by the polled phases
  and by byte fetches from the bus. Safe: the model stops where the hardware waits for ever. -/
  | stuckNoPulse
deriving DecidableEq, Repr

/-- What the model turns away. -/
inductive Refusal where
  /-- An instruction with no meaning yet; raised by no arm of `exec`. Safe. -/
  | notModelled (mnemonic : String)
  /-- The host issued a command that the built variant does not have (R310's variant column); raised by the host
  command step. Safe: such a host program does not exist on the device. -/
  | commandNotInVariant (c : Command)
  /-- Fetched bytes that are no packet; raised by the packet step and unreachable, because a fetch takes exactly the
  bytes of the type's format. Safe. -/
  | undecodable (e : DecodeError)
deriving DecidableEq, Repr

/-- Power-on reset (R45, R370). The values R45 leaves unspecified are zero (`none` for events), notes:
assumption 2; the model's own fields are at their start values, notes: assumptions 3, 4, 5, 11. -/
def State.reset : State where
  cfg := Config.built
  state := .awaitingMessage
  bitIdx := 0
  flagsByte := 0
  tLast := 0
  csum := 0
  cursor := 0
  isInitialized := false
  isReadyForText := false
  hasOutboundData := false
  checksumError := false
  msg := Vector.replicate 11 0
  cmq := Vector.replicate 10 (Vector.replicate 11 0)
  cmqHead := 0
  cmqLen := 0
  out := Vector.replicate 11 0
  outCursor := 0
  lcd := Vector.replicate 64 0
  lcdOff := 0
  evq := Vector.replicate 10 .none
  evCount := 0
  usNow := 0
  lineHigh := true
  edgeEnabled := false
  activity := .idle
  src := .bus
  readIdx := 0
  draining := false
  termSeen := false
  overrun := false
  pulses := []
  edges := []
  cmds := []
  sched := []
  tx := []
  diags := []
  results := []
  freeIdx := 0

end Sys2Proof.Machine
end

