-- ==== Sys2Proof/Machine/Flags.lean ====
section
/-! DEFINITION. The checksum, the two header bytes and what is derived from them (R22, R33, R35, R100, R102, R158). -/

namespace Sys2Proof.Machine

/-- The running XOR checksum after the bytes `bs` are read (R154). -/
def accumulate (c : Byte) (bs : List Byte) : Byte := bs.foldl (· ^^^ ·) c

/-- The verdict at the end of a message decode (R158, R217): the accumulator is not zero. -/
def checksumFails (c : Byte) : Bool := c != 0

/-- A flag at bit position `i` of a byte. -/
def bitAt (b : Bool) (i : Nat) : Byte := if b then 1#8 <<< i else 0#8

/-- The remote header byte (R100): bit 2 `isReadyForText`, bit 5 `hasOutboundData`, bit 7 `isInitialized`, the
reserved-low bits 0. -/
def remoteHeader (ready outbound init : Bool) : Byte :=
  bitAt ready 2 ||| bitAt outbound 5 ||| bitAt init 7

/-- The remote header as the session flags now make it (R35: formed each time, never stored). -/
def State.remoteHeaderNow (s : State) : Byte :=
  remoteHeader s.isReadyForText s.hasOutboundData s.isInitialized

/-- `hasData = NOT flagsByte[0]` (R33, R102). -/
def hasData (f : Byte) : Bool := !f.getLsbD 0

/-- `cedeBus = flagsByte[4]` (R33, R102). -/
def cedeBus (f : Byte) : Bool := f.getLsbD 4

/-- What follows the headers (R98). -/
inductive Branch where
  | initialization
  | playerMessage
  | outboundDrain
  | nothing
deriving DecidableEq, Repr

/-- The branch decision, the same in both variants (R98, R237, R260); the tests are made in this order. -/
def State.branch (s : State) : Branch :=
  if !s.isInitialized then .initialization
  else if hasData s.flagsByte && !cedeBus s.flagsByte then .playerMessage
  else if cedeBus s.flagsByte && s.hasOutboundData then .outboundDrain
  else .nothing

/-- `lcdSubType` (R185); the code points of digit and space are ASCII (G1, notes: assumption 16). -/
def lcdSubType (b : Byte) : LcdSubType :=
  if (0x30 ≤ b ∧ b ≤ 0x39) ∨ b = 0x20 then .time
  else if b = 0x14 then .trackTitle
  else if b = 0x04 then .discTitle
  else .unknown

/-- The level of a raw volume byte (R175): 0xFF is level 30, every other value is the level. -/
def volumeLevelOf (v : Byte) : Byte := if v = 0xFF then Config.volFFLevel else v

end Sys2Proof.Machine
end

