-- ==== Sys2Proof/Machine/Ops.lean ====
section
/-! DEFINITION. The named operations over the buffers, the outputs, the resets, the error classes, the Outbound
Message Builder, the Event Queue and the completed-message queue. -/

namespace Sys2Proof.Machine

/-! ### Buffers (R60 to R72) -/

/-- The byte index spaces (R60); `cmq slot` is one 11-byte slot of `CMQ`. -/
inductive Space where
  | msg
  | out
  | lcd
  | cmq (slot : Nat)
deriving DecidableEq, Repr

/-- The model's read of one byte of a buffer; `none` outside it (R72). -/
def State.peek (s : State) : Space → Nat → Option Byte
  | .msg, i => s.msg[i]?
  | .out, i => s.out[i]?
  | .lcd, i => s.lcd[i]?
  | .cmq slot, i => (s.cmq[slot]?).bind fun m => m[i]?

/-- The zero buffer of 11 bytes. -/
def zeroBuf : Vector Byte 11 := Vector.replicate 11 0

/-- Bit `k` of an 11-byte buffer: `BUF[k div 8][k mod 8]` (R61, R62). -/
def getBit (buf : Vector Byte 11) (k : Nat) : Bool := (buf[k / 8]?.getD 0).getLsbD (k % 8)

/-- `BUF[k div 8] <- BUF[k div 8] | (b << (k mod 8))` (R262, R291). -/
def orBit (buf : Vector Byte 11) (k : Nat) (b : Bool) : Vector Byte 11 :=
  buf.setIfInBounds (k / 8) (buf[k / 8]?.getD 0 ||| bitAt b (k % 8))

/-- A run of bits from bit `k` on. -/
def orBits (buf : Vector Byte 11) (k : Nat) : List Bool → Vector Byte 11
  | [] => buf
  | b :: bs => orBits (orBit buf k b) (k + 1) bs

/-- The bits of a byte in wire order, bit 0 first (R67, R96). -/
def byteBits (v : Byte) : List Bool := (List.range 8).map fun i => v.getLsbD i

/-! ### Outputs (R19) -/

/-- `emit TxBit` for each bit, in order (R155). -/
def State.emitTx (s : State) (bits : List Bool) : State := { s with tx := s.tx ++ bits }

/-- `writeByte` (R157): the eight bits, bit 0 first; no checksum is touched. -/
def State.writeByte (s : State) (v : Byte) : State := s.emitTx (byteBits v)

/-- `emit Diag` (R340): an output and nothing else. -/
def State.emitDiag (s : State) (d : Diag) : State := { s with diags := s.diags ++ [d] }

/-- The answer of a host command. -/
def State.respond (s : State) (r : HostResult) : State := { s with results := s.results ++ [r] }

/-! ### Resets and Initialization (R370 to R374) -/

/-- `FrameReset` (R372). -/
def State.frameReset (s : State) : State := { s with state := .awaitingMessage, bitIdx := 0 }

/-- Clear the Outbound Buffer (R295). -/
def State.clearOut (s : State) : State := { s with out := zeroBuf, outCursor := 0 }

/-- `SessionReset` (R373): the three session flags, the outbound state, and the frame. -/
def State.sessionReset (s : State) : State :=
  (State.clearOut { s with isInitialized := false, isReadyForText := false, hasOutboundData := false }).frameReset

/-- `Initialize` (R374): both flags true; `hasOutboundData` is not touched (C11). -/
def State.runInitialization (s : State) : State := { s with isInitialized := true, isReadyForText := true }

/-- Power-on reset while the machine runs (R370): the hardware's state is the reset state; the configuration, the
inputs, the outputs so far, the timer and the count of free values are no part of it. Notes: assumption 18. -/
def State.powerOnReset (s : State) : State :=
  { State.reset with
    cfg := s.cfg, usNow := s.usNow, pulses := s.pulses, edges := s.edges, cmds := s.cmds, sched := s.sched,
    tx := s.tx, diags := s.diags, results := s.results, freeIdx := s.freeIdx }

/-! ### Errors (R330 to R345) -/

/-- Entry to the handling of an error: "the effects listed in rule R330 and nothing else" (R344). Nothing is saved and
there is no return (R345): the machine goes on, from idle after a framing error, with the next byte after a decode
error. A polled frame call ends at a framing error (R232, R233, R332); `BufferOverrun` is reported once per message
(R74). -/
def State.raiseError (s : State) : ErrorClass → State
  | .timingError =>
    match s.cfg.variant with
    | .polled => { s with activity := .idle }
    | .edgeDriven => s.frameReset
  | .protocolReset =>
    match s.cfg.variant with
    | .polled => { s.sessionReset with activity := .idle }
    | .edgeDriven => s.sessionReset
  | .unknownType t => { s.emitDiag (.unknownType t) with draining := true }
  | .checksumMismatch => { s with checksumError := true }
  | .queueOverflow => s.emitDiag .queueOverflow
  | .capBadPayload v => s.emitDiag (.capBadPayload v)
  | .outboundOverflow => s.emitDiag .outboundOverflow
  | .bufferOverrun => if s.overrun then s else { s.emitDiag .bufferOverrun with overrun := true }
  | .lcdOverflow => s.emitDiag .lcdOverflow

/-! ### The Outbound Message Builder (R290 to R302) -/

/-- `queueOutboundBit` (R291). -/
def State.queueBit (s : State) (b : Bool) : State :=
  if s.outCursor < Config.msgBits then
    { s with out := orBit s.out s.outCursor b, outCursor := s.outCursor + 1 }
  else s.raiseError .outboundOverflow

/-- `queueOutboundByte` (R292): all eight bits or none (R294). -/
def State.queueByte (s : State) (v : Byte) : State :=
  if s.outCursor + 8 ≤ Config.msgBits then
    { s with out := orBits s.out s.outCursor (byteBits v), outCursor := s.outCursor + 8 }
  else s.raiseError .outboundOverflow

/-- Several bytes queued in order. -/
def State.queueBytes (s : State) : List Byte → State
  | [] => s
  | v :: vs => (s.queueByte v).queueBytes vs

/-- `onOutboundFinalized` (R299): nothing observable in either variant. -/
def State.onOutboundFinalized (s : State) : State := s

/-- `finalizeOutboundMessage` (R293). -/
def State.finalizeOutbound (s : State) : State :=
  State.onOutboundFinalized { s with hasOutboundData := true }

/-- The nine bytes of the capability descriptor (R111). -/
def capBytes (p : Params) : List Byte :=
  [p.capDescriptor[0], p.capDescriptor[1], p.capDescriptor[2], p.capDescriptor[3], p.capDescriptor[4],
    p.capDescriptor[5], p.capDescriptor[6], p.capDescriptor[7], p.capDescriptor[8]]

/-- Stage the capability reply (R173): nine bytes and their XOR, then finalize; one critical section (R78 (c)), so
one step. -/
def State.stageCapability (s : State) : State :=
  (s.queueBytes (capBytes s.cfg ++ [accumulate 0 (capBytes s.cfg)])).finalizeOutbound

/-- The first `n` bits of the Outbound Buffer in queue order. -/
def outBits (buf : Vector Byte 11) (n : Nat) : List Bool := (List.range n).map (getBit buf)

/-- `drainOutbound`, polled (R296): whole bytes, then the bits of a trailing partial byte, then clear. -/
def State.drainOutbound (s : State) : State :=
  let nBytes := s.outCursor / 8
  let nBits := s.outCursor % 8
  let wholeBytes := (List.range nBytes).flatMap fun j => byteBits (s.out[j]?.getD 0)
  let partialByte := (List.range nBits).map fun i => (s.out[nBytes]?.getD 0).getLsbD i
  { (s.emitTx (wholeBytes ++ partialByte)).clearOut with hasOutboundData := false }

/-! ### The Event Queue (R66, R215, R311) -/

/-- Push an event; a `None` event is never retained (R215), and a full queue drops the new event (D30). -/
def State.pushEvent (s : State) : RemoteEvent → State
  | .none => s
  | e =>
    if s.evCount < Config.evqCap then { s with evq := s.evq.setIfInBounds s.evCount e, evCount := s.evCount + 1 }
    else s

/-- `nextEvent` (R311): the top of the stack is removed and answered, or `Empty`. -/
def State.nextEvent (s : State) : State :=
  if s.evCount = 0 then s.respond .empty
  else State.respond { s with evCount := s.evCount - 1 } (.event (s.evq[s.evCount - 1]?.getD .none))

/-! ### The completed-message queue (R64, R263, R316) -/

/-- `enqueueCompleted` (R263): copy `MSG` to the tail, or drop the new message. -/
def State.enqueueCompleted (s : State) : State :=
  if s.cmqLen < Config.cmqCap then
    { s with cmq := s.cmq.setIfInBounds ((s.cmqHead + s.cmqLen) % Config.cmqCap) s.msg, cmqLen := s.cmqLen + 1 }
  else s.raiseError .queueOverflow

/-- The message at the head of the queue. -/
def State.cmqFront (s : State) : Vector Byte 11 := s.cmq[s.cmqHead]?.getD zeroBuf

/-- Remove the head (R316). -/
def State.cmqPop (s : State) : State :=
  { s with cmqHead := (s.cmqHead + 1) % Config.cmqCap, cmqLen := s.cmqLen - 1 }

/-! ### The decode loop's own steps (R212, R213) -/

/-- Start of a message decode on a byte source (R212). -/
def State.startDecode (s : State) (src : ByteSource) : State :=
  { s with
    evCount := 0, csum := 0, cursor := 0, draining := false,
    activity := .decoding, src := src, readIdx := 0, termSeen := false, overrun := false }

/-- The bytes `bs` have been read with `readByte(&csum)`: each is XORed into `csum` (R152, R154). -/
def State.accumulateBytes (s : State) (bs : List Byte) : State := { s with csum := accumulate s.csum bs }

/-- `cursor` advances by `n` (R213). -/
def State.advance (s : State) (n : Nat) : State := { s with cursor := s.cursor + n }

/-- What the loop does around a packet handler that reads payload `payload` after type byte `t` and answers event
`e`: the bytes enter the checksum, `cursor` advances by one and the payload length, the event is pushed (R213). -/
def State.packetDone (s : State) (t : Byte) (payload : List Byte) (e : RemoteEvent) : State :=
  ((s.accumulateBytes (t :: payload)).advance (1 + payload.length)).pushEvent e

end Sys2Proof.Machine
end

