-- ==== Sys2Proof/Machine/Edge.lean ====
section
/-! DEFINITION. The Frame State Machine, edge-driven variant (R250 to R269): one pulse one step. -/

namespace Sys2Proof.Machine

/-- `AwaitingMessage` on a pulse that is neither noise nor presync (R256). -/
def State.onAwaiting (d : Nat) (s : State) : State :=
  if inRange d s.cfg.ranges.presyncReset then s.raiseError .protocolReset else s.raiseError .timingError

/-- `BeforeSync` (R257). -/
def State.onBeforeSync (d : Nat) (s : State) : State :=
  if inRange d s.cfg.ranges.sync then { s with state := .inRemoteHeader, bitIdx := 0 }
  else s.raiseError .timingError

/-- `InRemoteHeader` (R258): one header bit, the flags sampled at each bit. -/
def State.onRemoteHeader (s : State) : State :=
  let s1 := s.emitTx [s.remoteHeaderNow.getLsbD s.bitIdx]
  if s.bitIdx + 1 = 8 then { s1 with state := .inPlayerHeader, bitIdx := 0 }
  else { s1 with bitIdx := s.bitIdx + 1 }

/-- The decision after the eighth player header bit (R260). -/
def State.edgeDecide (s : State) : State :=
  match s.branch with
  | .initialization => s.runInitialization.frameReset
  | .playerMessage => { s with msg := zeroBuf, state := .playerSending, bitIdx := 0 }
  | .outboundDrain => { s with state := .remoteSending, bitIdx := 0 }
  | .nothing => s.frameReset

/-- `InPlayerHeader` (R259): accumulate one bit, and decide on the eighth. -/
def State.onPlayerHeader (d : Nat) (s : State) : State :=
  let old : Byte := if s.bitIdx = 0 then 0 else s.flagsByte
  let s1 : State :=
    { s with flagsByte := old ||| bitAt (dataBit s.cfg.ranges d) s.bitIdx, bitIdx := s.bitIdx + 1 }
  if s1.bitIdx = 8 then s1.edgeDecide else s1

/-- `RemoteSending` (R261, R297): one bit of `OUT`; after bit 87 the buffer and the flag are cleared. -/
def State.onRemoteSending (s : State) : State :=
  let s1 := s.emitTx [getBit s.out s.bitIdx]
  if s.bitIdx + 1 = Config.msgBits then
    State.frameReset { s1.clearOut with hasOutboundData := false }
  else { s1 with bitIdx := s.bitIdx + 1 }

/-- `PlayerSending` (R262): one bit into `MSG`; after bit 87 the message is queued. -/
def State.onPlayerSending (d : Nat) (s : State) : State :=
  let s1 : State :=
    { s with msg := orBit s.msg s.bitIdx (dataBit s.cfg.ranges d), bitIdx := s.bitIdx + 1 }
  if s1.bitIdx = Config.msgBits then s1.enqueueCompleted.frameReset else s1

/-- `OnPulse` (R253, R265): the noise bound, the resynchronisation shortcut, then the state's own rule. -/
def State.onPulse (d : Nat) (s : State) : State :=
  if s.cfg.noiseMaxUs < d then s
  else if inRange d s.cfg.ranges.presync then { s with state := .beforeSync, bitIdx := 0 }
  else
    match s.state with
    | .awaitingMessage => s.onAwaiting d
    | .beforeSync => s.onBeforeSync d
    | .inRemoteHeader => s.onRemoteHeader
    | .inPlayerHeader => s.onPlayerHeader d
    | .playerSending => s.onPlayerSending d
    | .remoteSending => s.onRemoteSending

/-- `OnEdge` (R251, R252): both edges are timed, only a rising edge closes a pulse. -/
def State.onEdge (now : Nat) (kind : EdgeKind) (s : State) : State :=
  match kind with
  | .rising => State.onPulse (now - s.tLast) { s with tLast := now }
  | .falling => { s with tLast := now }

/-- The next edge of the line, `dt` microseconds after the edge before it: the timer runs on, the line changes level,
the handler is invoked with the time and the direction (R251, R348; notes: assumption 3). -/
def State.lineEdge (dt : Nat) (s : State) : State :=
  State.onEdge (s.usNow + dt) (if s.lineHigh then .falling else .rising)
    { s with usNow := s.usNow + dt, lineHigh := !s.lineHigh }

end Sys2Proof.Machine
end

