-- ==== Sys2Proof/Machine/Operands.lean ====
section
/-! DEFINITION. The bit capability and the byte sources: pulses and bits from the bus, bytes from the bus or from a
captured message, and the operand bytes of a packet (R150 to R153, R231). -/

namespace Sys2Proof.Machine

/-- `measurePulse` (R231): the next whole pulse of the stream (D43); `none` when there is none. DESIGN CHOICE: a pulse that
passes while no polled call runs (R387) is one that the stream does not hold. Notes: assumption 24. -/
def State.takePulse (s : State) : Option (Nat × State) :=
  match s.pulses with
  | [] => none
  | d :: ps => some (d, { s with pulses := ps })

/-- `n` more cells from cell `i` on, ORed into `v` at their weights (R152, R236): the byte and the pulses left. -/
def readBits (t : RangeTable) : Nat → Nat → Byte → List Nat → Option (Byte × List Nat)
  | 0, _, v, ps => some (v, ps)
  | _ + 1, _, _, [] => none
  | n + 1, i, v, p :: ps => readBits t n (i + 1) (v ||| bitAt (dataBit t p) i) ps

/-- Eight cells make a byte, bit 0 first (R96, R152). -/
def readBusByte (t : RangeTable) (ps : List Nat) : Option (Byte × List Nat) := readBits t 8 0 0 ps

/-- The next byte of the decode's source, before it enters the checksum: from the bus (R152), or byte `readIdx` of the
captured message (R153); at index 11 and above any value, fresh per byte, with `Diag(BufferOverrun)` once per
message (R74, U10). -/
def State.takeByte (s : State) : Option (Byte × State) :=
  match s.src with
  | .bus =>
    match readBusByte s.cfg.ranges s.pulses with
    | none => none
    | some (b, ps) => some (b, { s with pulses := ps, readIdx := s.readIdx + 1 })
  | .captured m =>
    match m[s.readIdx]? with
    | some b => some (b, { s with readIdx := s.readIdx + 1 })
    | none =>
      some (Config.freeByte s.freeIdx,
        State.raiseError { s with readIdx := s.readIdx + 1, freeIdx := s.freeIdx + 1 } .bufferOverrun)

/-- `n` bytes in order. -/
def State.takeBytes : Nat → State → Option (List Byte × State)
  | 0, s => some ([], s)
  | n + 1, s =>
    match s.takeByte with
    | none => none
    | some (b, s1) =>
      match State.takeBytes n s1 with
      | none => none
      | some (bs, s2) => some (b :: bs, s2)

/-- The bytes of the next packet: the type byte, then as many payload bytes as it fixes (R116, R170). -/
def State.fetchPacket (s : State) : Option (List Byte × State) :=
  match s.takeByte with
  | none => none
  | some (t, s1) =>
    match State.takeBytes (payloadBytes t) s1 with
    | none => none
    | some (bs, s2) => some (t :: bs, s2)

/-- `readByte(&csum)` (R152): the next byte, XORed into `csum`. -/
def State.readByte (s : State) : Option (Byte × State) :=
  match s.takeByte with
  | none => none
  | some (b, s1) => some (b, s1.accumulateBytes [b])

end Sys2Proof.Machine
end

