-- ==== Sys2Proof/Machine/Control.lean ====
section
/-! DEFINITION. The packets that act on the decode loop or on the Outbound Buffer: TERM, UNKNOWN, CAPREQ
(R172, R173, R188, R214, R216). -/

namespace Sys2Proof.Machine

/-- `TERM` (R172, R214): the loop is left before `cursor` advances; the byte enters the checksum, which it does not
change. -/
def execTerm (s : State) : Host.Outcome State Fault Refusal :=
  .next { s.accumulateBytes [0x00] with termSeen := true }

/-- `UNKNOWN` (R188, R216): a diagnostic, no payload byte, and draining from here on; the type byte counts one
byte. -/
def execUnknown (t : Byte) (s : State) : Host.Outcome State Fault Refusal :=
  .next ((s.raiseError (.unknownType t)).packetDone t [] .none)

/-- `CAPREQ` (R173): payload 0x01 stages the capability reply, any other value is logged and stages nothing. -/
def execCapreq (v : Byte) (s : State) : Host.Outcome State Fault Refusal :=
  if v = 0x01 then .next (s.stageCapability.packetDone 0x01 [v] .none)
  else .next ((s.raiseError (.capBadPayload v)).packetDone 0x01 [v] .none)

end Sys2Proof.Machine
end

