-- ==== Sys2Proof/Machine/Indicators.lean ====
section
/-! DEFINITION. The packets that push one event and write no other state: VOL, MODE, REC, BATT, EQ, ALARM, TRACK
(R175 to R181). -/

namespace Sys2Proof.Machine

/-- `VOL` (R175). -/
def execVol (v : Byte) (s : State) : Host.Outcome State Fault Refusal :=
  .next (s.packetDone 0x40 [v] (.volumeLevel (volumeLevelOf v)))

/-- `MODE` (R176). -/
def execMode (v : Byte) (s : State) : Host.Outcome State Fault Refusal :=
  .next (s.packetDone 0x41 [v] (.playbackMode v))

/-- `REC` (R177). -/
def execRecord (v : Byte) (s : State) : Host.Outcome State Fault Refusal :=
  .next (s.packetDone 0x42 [v] (.recordIndicator v))

/-- `BATT` (R178). -/
def execBatt (v : Byte) (s : State) : Host.Outcome State Fault Refusal :=
  .next (s.packetDone 0x43 [v] (.batteryLevel v))

/-- `EQ` (R179). -/
def execEqind (v : Byte) (s : State) : Host.Outcome State Fault Refusal :=
  .next (s.packetDone 0x46 [v] (.eqIndicator v))

/-- `ALARM` (R180). -/
def execAlarm (v : Byte) (s : State) : Host.Outcome State Fault Refusal :=
  .next (s.packetDone 0x47 [v] (.alarmIndicator v))

/-- The event of a `TRACK` packet: `TRACK_DECODE` of the four bytes, and the bytes themselves (R181, D19). -/
def trackEvent (p0 p1 p2 p3 : Byte) : RemoteEvent :=
  .trackNumber (Config.trackDecode p0 p1 p2 p3).1 (Config.trackDecode p0 p1 p2 p3).2 #v[p0, p1, p2, p3]

/-- `TRACK` (R181). -/
def execTrack (p0 p1 p2 p3 : Byte) (s : State) : Host.Outcome State Fault Refusal :=
  .next (s.packetDone 0xA0 [p0, p1, p2, p3] (trackEvent p0 p1 p2 p3))

end Sys2Proof.Machine
end

