-- ==== Sys2Proof/Machine/Text.lean ====
section
/-! DEFINITION. The packets of the LCD Text Accumulator: LCD and LCDCLR (R174, R182 to R187). -/

namespace Sys2Proof.Machine

/-- `LCDCLR` (R174): the accumulated text is dropped; the bytes of `LCD` stay. -/
def execLcdclr (s : State) : Host.Outcome State Fault Refusal :=
  .next (State.packetDone { s with lcdOff := 0 } 0x08 [] .none)

/-- The characters of a chunk that count: those before its first 0xFF (R183). -/
def lcdChunk (chars : List Byte) : List Byte := chars.takeWhile (· != 0xFF)

/-- Append characters at `lcdOff`, dropping what would go past index 62 (R182, R186); the flag says whether any was
dropped. -/
def State.lcdAppend : List Byte → State → State × Bool
  | [], s => (s, false)
  | c :: cs, s =>
    if s.lcdOff ≤ Config.lcdLastChar then
      State.lcdAppend cs { s with lcd := s.lcd.setIfInBounds s.lcdOff c, lcdOff := s.lcdOff + 1 }
    else ((State.lcdAppend cs s).1, true)

/-- The chunk of one packet is appended; `Diag(LcdOverflow)` once per packet if a character was dropped (R182, D25). -/
def State.lcdStore (s : State) (chars : List Byte) : State :=
  let r := State.lcdAppend (lcdChunk chars) s
  if r.2 then r.1.raiseError .lcdOverflow else r.1

/-- The text a flush emits: `LCD[1 .. lcdOff-1]` (R182, R184). -/
def State.lcdText (s : State) : List Byte := (s.lcd.toList.take s.lcdOff).drop 1

/-- The flush of a final segment (R184): write the terminator, classify `LCD[0]`, emit the text without it, reset the
offset. -/
def State.lcdFlush (s : State) : RemoteEvent × State :=
  let s1 : State := { s with lcd := s.lcd.setIfInBounds s.lcdOff 0 }
  (.lcdText (lcdSubType (s1.lcd[0])) s1.lcdText, { s1 with lcdOff := 0 })

/-- `LCD` (R182): all seven characters are read, the chunk is appended, a final segment (0x01) flushes. -/
def execLcd (seg unk c0 c1 c2 c3 c4 c5 c6 : Byte) (s : State) : Host.Outcome State Fault Refusal :=
  let stored := s.lcdStore [c0, c1, c2, c3, c4, c5, c6]
  if seg = 0x01 then
    .next (stored.lcdFlush.2.packetDone 0xC8 [seg, unk, c0, c1, c2, c3, c4, c5, c6] stored.lcdFlush.1)
  else
    .next (stored.packetDone 0xC8 [seg, unk, c0, c1, c2, c3, c4, c5, c6] .none)

end Sys2Proof.Machine
end

