-- ==== Sys2Proof/Machine/Dispatch.lean ====
section
/-! DEFINITION. One arm per packet type (R112, R170). -/

namespace Sys2Proof.Machine

/-- The effect of one packet inside the Message Decode Loop, its bytes already taken from the byte source. -/
def exec (i : Instr) (s : State) : Host.Outcome State Fault Refusal :=
  match i with
  | .term => Sys2Proof.Machine.execTerm s
  | .capreq v => Sys2Proof.Machine.execCapreq v s
  | .lcdclr => Sys2Proof.Machine.execLcdclr s
  | .vol v => Sys2Proof.Machine.execVol v s
  | .mode v => Sys2Proof.Machine.execMode v s
  | .record v => Sys2Proof.Machine.execRecord v s
  | .batt v => Sys2Proof.Machine.execBatt v s
  | .eqind v => Sys2Proof.Machine.execEqind v s
  | .alarm v => Sys2Proof.Machine.execAlarm v s
  | .track p0 p1 p2 p3 => Sys2Proof.Machine.execTrack p0 p1 p2 p3 s
  | .lcd seg unk c0 c1 c2 c3 c4 c5 c6 => Sys2Proof.Machine.execLcd seg unk c0 c1 c2 c3 c4 c5 c6 s
  | .unknown t => Sys2Proof.Machine.execUnknown t s

end Sys2Proof.Machine
end

