-- ==== Sys2Proof/Machine/Decoder.lean ====
section
/-! DEFINITION. The Message Decode Loop (R210 to R226), one iteration a step: a packet, a drained byte, or the trailing
checksum byte. -/

namespace Sys2Proof.Machine

/-- One packet (R213): fetch its bytes, decode them, execute. -/
def State.packetStep (s : State) : Host.Outcome State Fault Refusal :=
  match s.fetchPacket with
  | none => .fault .stuckNoPulse
  | some (bs, s1) =>
    match decode bs with
    | .ok i _ => exec i s1
    | .rejected e => .refused (.undecodable e)

/-- One drained byte (R216): read, XORed, counted, not interpreted. -/
def State.drainStep (s : State) : Host.Outcome State Fault Refusal :=
  match s.readByte with
  | none => .fault .stuckNoPulse
  | some (_, s1) => .next (s1.advance 1)

/-- The end of a decode: the polled call returns (R239); `decodeNext` answers true (R316). -/
def State.endDecode (s : State) : State :=
  match s.src with
  | .bus => { s with activity := .idle }
  | .captured _ => State.respond { s with activity := .idle } (.decoded true)

/-- The trailing checksum byte (R217): `checksumError <- (csum != 0)`. -/
def State.checksumStep (s : State) : Host.Outcome State Fault Refusal :=
  match s.readByte with
  | none => .fault .stuckNoPulse
  | some (_, s1) =>
    let s2 : State := { s1 with checksumError := false }
    .next (if checksumFails s1.csum then (s2.raiseError .checksumMismatch).endDecode else s2.endDecode)

/-- One iteration of the loop (R213): the loop runs while `cursor < 10` and no terminator was met. -/
def State.decodeStep (s : State) : Host.Outcome State Fault Refusal :=
  if s.termSeen || decide (Config.msgBudget ≤ s.cursor) then s.checksumStep
  else if s.draining then s.drainStep
  else s.packetStep

end Sys2Proof.Machine
end

