-- ==== Sys2Proof/Machine/Polled.lean ====
section
/-! DEFINITION. The Frame State Machine, polled variant (R230 to R245): the blocking call unrolled into its phases (R29
allows it); nothing runs between two phases of one call (R82, R230). -/

namespace Sys2Proof.Machine

/-- Step (a), presync (R232). -/
def State.polledPresync (s : State) : Host.Outcome State Fault Refusal :=
  match s.takePulse with
  | none => .fault .stuckNoPulse
  | some (d, s1) =>
    match classifyStart s.cfg.ranges d with
    | .presyncReset => .next (s1.raiseError .protocolReset)
    | .presync => .next { s1 with activity := .awaitSync }
    | _ => .next (s1.raiseError .timingError)

/-- Step (b), sync (R233). -/
def State.polledSync (s : State) : Host.Outcome State Fault Refusal :=
  match s.takePulse with
  | none => .fault .stuckNoPulse
  | some (d, s1) =>
    match classifySync s.cfg.ranges d with
    | .sync => .next { s1 with activity := .remoteHeader }
    | _ => .next (s1.raiseError .timingError)

/-- Step (c), remote header (R234, R235): the eight bits, the flags sampled once. -/
def State.polledRemoteHeader (s : State) : State :=
  { s.writeByte s.remoteHeaderNow with activity := .playerHeader }

/-- Step (e), branch (R237 to R241). -/
def State.polledBranch (s : State) : State :=
  match s.branch with
  | .initialization => { s.runInitialization with activity := .idle }
  | .playerMessage => s.startDecode .bus
  | .outboundDrain => { s.drainOutbound with activity := .idle }
  | .nothing => { s with activity := .idle }

/-- Steps (d) and (e): read the player header into `flagsByte` (R236), then branch. -/
def State.polledPlayerHeader (s : State) : Host.Outcome State Fault Refusal :=
  match readBusByte s.cfg.ranges s.pulses with
  | none => .fault .stuckNoPulse
  | some (f, ps) => .next (State.polledBranch { s with pulses := ps, flagsByte := f })

end Sys2Proof.Machine
end

