-- ==== Sys2Proof/Machine/Agents.lean ====
section
/-! DEFINITION. The agents and their turns (R18, R75 to R78, R346): the interrupt context, the main context with the host
commands (R310 to R316), and which of them moves next. -/

namespace Sys2Proof.Machine

/-- `decodeNext` (R316): the dequeue is one critical section; the decode that follows is not part of it. -/
def State.decodeNext (s : State) : State :=
  if s.cmqLen = 0 then s.respond (.decoded false)
  else s.cmqPop.startDecode (.captured s.cmqFront)

/-- One host command (R310); a command the built variant lacks is turned away (notes: assumption 8). -/
def State.hostCommand (s : State) (c : Command) : Host.Outcome State Fault Refusal :=
  match c, s.cfg.variant with
  | .nextEvent, _ => .next s.nextEvent
  | .hasChecksumError, _ => .next (s.respond (.checksumError s.checksumError))
  | .queueOutboundByte v, _ => .next (s.queueByte v)
  | .queueOutboundBit b, _ => .next (s.queueBit b)
  | .finalizeOutboundMessage, _ => .next s.finalizeOutbound
  | .pollFrame, .polled => .next { s with activity := .awaitPresync }
  | .decodeNext, .edgeDriven => .next s.decodeNext
  | .registerEdgeCallback, .edgeDriven => .next { s with edgeEnabled := true }
  | c, _ => .refused (.commandNotInVariant c)

/-- A turn of the main context: go on with what it is in the middle of, else take the next host command, else
nothing (R76, R82). -/
def State.mainTurn (s : State) : Host.Outcome State Fault Refusal :=
  match s.activity with
  | .awaitPresync => s.polledPresync
  | .awaitSync => s.polledSync
  | .remoteHeader => .next s.polledRemoteHeader
  | .playerHeader => s.polledPlayerHeader
  | .decoding => s.decodeStep
  | .idle =>
    match s.cmds with
    | [] => .next s
    | c :: cs => State.hostCommand { s with cmds := cs } c

/-- A turn of the interrupt context (R250, R346): in the edge-driven variant, once the callback is registered (R375),
the next edge; else nothing (R341: the polled variant uses no interrupt). -/
def State.interruptTurn (s : State) : State :=
  match s.cfg.variant, s.edgeEnabled, s.edges with
  | .edgeDriven, true, dt :: es => State.lineEdge dt { s with edges := es }
  | _, _, _ => s

/-- With the schedule used up, the main context moves while it has work, else the interrupt context (notes:
assumption 4). -/
def State.defaultTurn (s : State) : Turn :=
  match s.activity, s.cmds with
  | .idle, [] => .interrupt
  | _, _ => .main

/-- One turn of an agent. -/
def State.turn (s : State) : Turn → Host.Outcome State Fault Refusal
  | .interrupt => .next s.interruptTurn
  | .main => s.mainTurn
  | .powerOn => .next s.powerOnReset

/-- The next turn: the head of the schedule, else the default (R75, R76). -/
def State.nextTurn (s : State) : Host.Outcome State Fault Refusal :=
  match s.sched with
  | [] => s.turn s.defaultTurn
  | t :: ts => State.turn { s with sched := ts } t

/-- The state in which the decoder's next packet is the one whose bytes `bs` lie at the head of a captured message. -/
def State.loadPacket (s : State) (m : Vector Byte 11) : State :=
  { s with
    sched := [], activity := .decoding, src := .captured m, readIdx := 0, cursor := 0, draining := false,
    termSeen := false }

/-- A captured message from a list of bytes, zeros after them. -/
def messageOfBytes (bs : List Byte) : Vector Byte 11 :=
  #v[bs.getD 0 0, bs.getD 1 0, bs.getD 2 0, bs.getD 3 0, bs.getD 4 0, bs.getD 5 0, bs.getD 6 0, bs.getD 7 0,
    bs.getD 8 0, bs.getD 9 0, bs.getD 10 0]

end Sys2Proof.Machine
end

