-- ==== Sys2Proof/Machine/Step.lean ====
section
/-! DEFINITION. The step: one turn of one agent. And the state whose very next step runs a given instruction. -/

namespace Sys2Proof.Machine

/-- One step of the machine (R18, R28). -/
def step (s : State) : Host.Outcome State Fault Refusal := s.nextTurn

/-- `s` with the instruction's bytes as the message that the decoder is about to read: the main context is in a message
decode of that message, at its first byte (notes: assumption 9). -/
def State.withFetchWord (s : State) (nbits w : Nat) : State := s.loadPacket (messageOfBytes (tableBytes nbits w))

end Sys2Proof.Machine
end

