-- ==== Sys2Proof/Safety.lean ====
section
/-! DEFINITION. What counts as a safe run, in the terms claims use: the machine's invariant, host commands that the built
variant has, and completion of a step. -/

namespace Sys2Proof.Machine

/-- An outcome that goes on (R331: no error is fatal). -/
def Completes (o : Host.Outcome State Fault Refusal) : Prop := ∃ t, o = .next t

/-- What the Event Queue may hold: never a `None` event (R215), never `NotImplemented` (R189), no text longer than
62 bytes (R40, R184). -/
def RemoteEvent.queueable : RemoteEvent → Prop
  | .none => False
  | .notImplemented => False
  | .lcdText _ text => text.length ≤ 62
  | _ => True

/-- The host commands each variant has (R310). -/
def Command.inVariant : Variant → Command → Bool
  | .polled, .decodeNext => false
  | .polled, .registerEdgeCallback => false
  | .edgeDriven, .pollFrame => false
  | _, _ => true

/-- Every command the host still has to issue is one the built variant has. -/
def State.commandsFit (s : State) : Prop := ∀ c ∈ s.cmds, Command.inVariant s.cfg.variant c = true

/-- It is the main context's turn in `r` and `s` is the machine as that turn sees it: a turn taken from the schedule, or,
with the schedule used up, the default turn of a main context that has work (R75, R76, R316; notes: assumption 4). -/
def State.mainSees (r s : State) : Prop :=
  (r.sched = [] ∧ (r.activity ≠ .idle ∨ r.cmds ≠ []) ∧ s = r) ∨ ∃ ts, r.sched = .main :: ts ∧ s = { r with sched := ts }

/-- It is the interrupt context's turn in `r` and `s` is the machine as that turn sees it: a turn taken from the schedule,
or, with the schedule used up, the default turn beside a main context that has no work (R75, R76; notes: assumption 4). -/
def State.interruptSees (r s : State) : Prop :=
  (r.sched = [] ∧ r.activity = .idle ∧ r.cmds = [] ∧ s = r) ∨ ∃ ts, r.sched = .interrupt :: ts ∧ s = { r with sched := ts }

/-- The byte source of a decode is the one of the built variant (R210). -/
def State.sourceFits (s : State) : Prop :=
  match s.src with
  | .bus => s.cfg.variant = .polled
  | .captured _ => s.cfg.variant = .edgeDriven

/-- The invariant of the machine: it holds at reset and every step keeps it. No clause says anything of a value that R45
leaves unspecified before a rule has written it. -/
structure State.Inv (s : State) : Prop where
  /-- R266 (a). -/
  idleBitIdx : s.state = .awaitingMessage ∨ s.state = .beforeSync → s.bitIdx = 0
  /-- R266 (b). -/
  headerBitIdx : s.state = .inRemoteHeader ∨ s.state = .inPlayerHeader → s.bitIdx ≤ 7
  /-- R266 (c). -/
  dataBitIdx : s.state = .playerSending ∨ s.state = .remoteSending → s.bitIdx ≤ 87
  /-- R266 (d). -/
  remoteSendingReady : s.state = .remoteSending → s.isInitialized = true ∧ s.hasOutboundData = true
  /-- R29: the polled variant persists no `state`. -/
  polledState : s.cfg.variant = .polled → s.state = .awaitingMessage
  /-- R31. -/
  sessionFlags : s.isInitialized = s.isReadyForText
  /-- R42. -/
  cmqHead_lt : s.cmqHead < 10
  /-- R266 (e). -/
  cmqLen_le : s.cmqLen ≤ 10
  /-- R37. -/
  outCursor_le : s.outCursor ≤ 88
  /-- R62: the bits of `OUT` at and above the cursor are 0. -/
  outTail : ∀ k, s.outCursor ≤ k → k < 88 → getBit s.out k = false
  /-- R41, R61: while a message is captured, the bits of `MSG` not yet received are 0. -/
  msgTail : s.state = .playerSending → ∀ k, s.bitIdx ≤ k → k < 88 → getBit s.msg k = false
  /-- R38, R72. -/
  lcdOff_le : s.lcdOff ≤ 63
  /-- R23: during a decode; outside one `cursor` does not exist. -/
  cursor_le : s.activity = .decoding → s.cursor ≤ 19
  /-- R221: during a decode, every event took a packet of at least two bytes. -/
  eventBytes : s.activity = .decoding → 2 * s.evCount ≤ s.cursor
  /-- R221: at most five events. -/
  evCount_le : s.evCount ≤ 5
  /-- R189, R215, R40. -/
  events : ∀ k e, k < s.evCount → s.evq[k]? = some e → e.queueable
  /-- R27, R348: in a pulse, the falling edge that began it is not in the future. -/
  tLast_le : s.lineHigh = false → s.tLast ≤ s.usNow
  /-- R222: the bytes taken from the source are those `cursor` counts, and the terminator. -/
  readIdx_eq : s.activity = .decoding → s.readIdx = s.cursor + (if s.termSeen then 1 else 0)
  /-- R210: the byte source is the variant's. -/
  decodeSource : s.activity = .decoding → s.sourceFits
  /-- R74: the overrun was reported iff a byte at index 11 or above was asked for. -/
  overrun_iff : s.activity = .decoding → s.cfg.variant = .edgeDriven → (s.overrun = true ↔ 11 < s.readIdx)
  /-- R8: the polled call's phases exist in the polled variant only. -/
  polledPhase : s.activity ≠ .idle → s.activity ≠ .decoding → s.cfg.variant = .polled

end Sys2Proof.Machine
end

