-- ==== Sys2Proof/Certificates/Slice0/Obligations.lean ====
section
/-! DEFINITION. The statements for the provers. `{ s with … }` in a conclusion is also the frame: every field of the state
that is not named, every byte of every buffer among them, is unchanged. The fields `activity`, `src`, `readIdx`, `termSeen`
and `overrun` are the model's own record of a running decode or polled call (notes: assumption 11); `sched`, `pulses`,
`edges`, `cmds` are its inputs (notes: assumptions 3, 4, 24) and `tx`, `diags`, `results` its outputs (notes: assumption 20). In a
statement about one context `r` is the machine and `s` what that context sees at its turn (`State.mainSees`,
`State.interruptSees`): the turn is the schedule's, with whatever turns of the other context before and after it, or the
default one. -/

open Sys2Proof Sys2Proof.Machine

/-! ### Encodings -/

/-- A few words of the opcode table, written out from R112 and R117 (byte 0 in bits 7..0). -/
def Obligations.DecodesWordsOfTheTable : Prop :=
  decodeTableWord 8 0x00 = some .term ∧
  decodeTableWord 16 0x0101 = some (.capreq 0x01) ∧
  decodeTableWord 8 0x08 = some .lcdclr ∧
  decodeTableWord 16 0x0A40 = some (.vol 0x0A) ∧
  decodeTableWord 40 0x01000500A0 = some (.track 0x00 0x05 0x00 0x01) ∧
  decodeTableWord 80 0xFFFFFFFF4241140001C8 =
    some (.lcd 0x01 0x00 0x14 0x41 0x42 0xFF 0xFF 0xFF 0xFF) ∧
  decodeTableWord 8 0xFE = some (.unknown 0xFE)

/-- R105, R112, R116: every packet's bytes decode to it, whatever follows them. -/
def Obligations.DecodeInvertsEncode : Prop :=
  ∀ (i : Instr) (rest : List Byte), i.wellFormed = true → decode (encode i ++ rest) = .ok i rest

/-- R112, R114: what decodes is a well-formed packet and its own encoding: no two packets share bytes. -/
def Obligations.EncodeInvertsDecode : Prop :=
  ∀ (bs rest : List Byte) (i : Instr), decode bs = .ok i rest → i.wellFormed = true ∧ bs = encode i ++ rest

/-- R114, R116: every type byte decodes, as soon as the payload its type fixes is there. -/
def Obligations.DecodesEveryTypeByte : Prop :=
  ∀ (t : Byte) (rest : List Byte),
    ((∃ i r, decode (t :: rest) = .ok i r) ↔ payloadBytes t ≤ rest.length)

/-! ### Packets: result, frame and completion -/

/-- R175: VOL, every payload byte, while the Event Queue has room. -/
def Obligations.VolumePacketPushesItsLevel : Prop :=
  ∀ (v : Byte) (s : State), s.evCount < 10 →
    exec (.vol v) s = .next { s with
      csum := s.csum ^^^ 0x40 ^^^ v, cursor := s.cursor + 2,
      evq := s.evq.setIfInBounds s.evCount (.volumeLevel (if v = 0xFF then 30 else v)), evCount := s.evCount + 1 }

/-- R176 to R180: MODE, REC, BATT, EQ, ALARM carry their byte unchanged. -/
def Obligations.IndicatorPacketsCarryTheirByte : Prop :=
  ∀ (v : Byte) (s : State), s.evCount < 10 →
    exec (.mode v) s = .next { s with
      csum := s.csum ^^^ 0x41 ^^^ v, cursor := s.cursor + 2,
      evq := s.evq.setIfInBounds s.evCount (.playbackMode v), evCount := s.evCount + 1 } ∧
    exec (.record v) s = .next { s with
      csum := s.csum ^^^ 0x42 ^^^ v, cursor := s.cursor + 2,
      evq := s.evq.setIfInBounds s.evCount (.recordIndicator v), evCount := s.evCount + 1 } ∧
    exec (.batt v) s = .next { s with
      csum := s.csum ^^^ 0x43 ^^^ v, cursor := s.cursor + 2,
      evq := s.evq.setIfInBounds s.evCount (.batteryLevel v), evCount := s.evCount + 1 } ∧
    exec (.eqind v) s = .next { s with
      csum := s.csum ^^^ 0x46 ^^^ v, cursor := s.cursor + 2,
      evq := s.evq.setIfInBounds s.evCount (.eqIndicator v), evCount := s.evCount + 1 } ∧
    exec (.alarm v) s = .next { s with
      csum := s.csum ^^^ 0x47 ^^^ v, cursor := s.cursor + 2,
      evq := s.evq.setIfInBounds s.evCount (.alarmIndicator v), evCount := s.evCount + 1 }

/-- R181: TRACK, for every function `TRACK_DECODE` (an open parameter, of which nothing is used but its value at the
four bytes). -/
def Obligations.TrackPacketPushesDecodedTrack : Prop :=
  ∀ (p0 p1 p2 p3 : Byte) (s : State), s.evCount < 10 →
    exec (.track p0 p1 p2 p3) s = .next { s with
      csum := s.csum ^^^ 0xA0 ^^^ p0 ^^^ p1 ^^^ p2 ^^^ p3, cursor := s.cursor + 5,
      evq := s.evq.setIfInBounds s.evCount
        (.trackNumber (Config.trackDecode p0 p1 p2 p3).1 (Config.trackDecode p0 p1 p2 p3).2 #v[p0, p1, p2, p3]),
      evCount := s.evCount + 1 }

/-- R66 (D30): with ten events queued the new event is dropped and nothing else differs. -/
def Obligations.FullEventQueueDropsTheNewEvent : Prop :=
  ∀ (v p0 p1 p2 p3 : Byte) (s : State), 10 ≤ s.evCount →
    exec (.vol v) s = .next { s with csum := s.csum ^^^ 0x40 ^^^ v, cursor := s.cursor + 2 } ∧
    exec (.mode v) s = .next { s with csum := s.csum ^^^ 0x41 ^^^ v, cursor := s.cursor + 2 } ∧
    exec (.record v) s = .next { s with csum := s.csum ^^^ 0x42 ^^^ v, cursor := s.cursor + 2 } ∧
    exec (.batt v) s = .next { s with csum := s.csum ^^^ 0x43 ^^^ v, cursor := s.cursor + 2 } ∧
    exec (.eqind v) s = .next { s with csum := s.csum ^^^ 0x46 ^^^ v, cursor := s.cursor + 2 } ∧
    exec (.alarm v) s = .next { s with csum := s.csum ^^^ 0x47 ^^^ v, cursor := s.cursor + 2 } ∧
    exec (.track p0 p1 p2 p3) s =
      .next { s with csum := s.csum ^^^ 0xA0 ^^^ p0 ^^^ p1 ^^^ p2 ^^^ p3, cursor := s.cursor + 5 }

/-- R174: LCDCLR drops the accumulated text; no byte of `LCD` changes. -/
def Obligations.LcdClearResetsTheOffset : Prop :=
  ∀ s : State, exec .lcdclr s =
    .next { s with lcdOff := 0, csum := s.csum ^^^ 0x08, cursor := s.cursor + 1 }

/-- R172, R214: TERM leaves `csum` and `cursor` as they are and ends the packet sequence (`termSeen` is the model's
own field, notes: assumption 11); dispatched directly its type byte is the sentinel. -/
def Obligations.TerminatorEndsThePackets : Prop :=
  (∀ s : State, exec .term s = .next { s with termSeen := true }) ∧ dispatchTable 0x00 = .unknownType

/-- R188, R216: an unknown type reads no payload, emits its diagnostic, counts one byte and starts the draining. -/
def Obligations.UnknownTypeStartsDraining : Prop :=
  ∀ (t : Byte) (s : State), knownTypes.contains t = false →
    dispatchTable t = .unknownType ∧ payloadBytes t = 0 ∧
    exec (.unknown t) s = .next { s with
      csum := s.csum ^^^ t, cursor := s.cursor + 1, diags := s.diags ++ [.unknownType t], draining := true }

/-- R302: from an empty Outbound Buffer a capabilities request stages the nine descriptor bytes and their XOR; a payload
byte other than 0x01 stages nothing. -/
def Obligations.CapabilityRequestStagesTheReply : Prop :=
  (∀ s : State, s.out = Vector.replicate 11 0 → s.outCursor = 0 →
    let d := s.cfg.capDescriptor
    let x := d[0] ^^^ d[1] ^^^ d[2] ^^^ d[3] ^^^ d[4] ^^^ d[5] ^^^ d[6] ^^^ d[7] ^^^ d[8]
    exec (.capreq 0x01) s = .next { s with
      out := #v[d[0], d[1], d[2], d[3], d[4], d[5], d[6], d[7], d[8], x, 0x00], outCursor := 80,
      hasOutboundData := true, csum := s.csum ^^^ 0x01 ^^^ 0x01, cursor := s.cursor + 2 } ∧
    [d[0], d[1], d[2], d[3], d[4], d[5], d[6], d[7], d[8], x].foldl (· ^^^ ·) (0x00 : Byte) = 0x00) ∧
  (∀ (v : Byte) (s : State), v ≠ 0x01 →
    exec (.capreq v) s = .next { s with
      diags := s.diags ++ [.capBadPayload v], csum := s.csum ^^^ 0x01 ^^^ v, cursor := s.cursor + 2 })

/-- R173, R294, R298: in any state the ten bytes are appended at the cursor as far as whole bytes fit, the others are
dropped with a diagnostic each, and every bit outside the appended ones is unchanged. -/
def Obligations.CapabilityReplyIsAppendedAsFarAsItFits : Prop :=
  ∀ s : State,
    let reply := capBytes s.cfg ++ [(capBytes s.cfg).foldl (· ^^^ ·) (0x00 : Byte)]
    let fit := min 10 ((88 - s.outCursor) / 8)
    ∃ o : Vector Byte 11,
      exec (.capreq 0x01) s = .next { s with
        out := o, outCursor := s.outCursor + 8 * fit, hasOutboundData := true,
        diags := s.diags ++ List.replicate (10 - fit) .outboundOverflow,
        csum := s.csum ^^^ 0x01 ^^^ 0x01, cursor := s.cursor + 2 } ∧
      (∀ k, k < s.outCursor ∨ s.outCursor + 8 * fit ≤ k → getBit o k = getBit s.out k) ∧
      (∀ j i, j < fit → i < 8 →
        getBit o (s.outCursor + 8 * j + i) =
          (getBit s.out (s.outCursor + 8 * j + i) || (reply.getD j 0).getLsbD i))

/-- R183, R186, R187: a "more segments" packet appends its chunk up to the first 0xFF, as far as it fits below index 63,
emits no event, and changes no other byte of any buffer. -/
def Obligations.MoreSegmentsPacketAppendsItsChunk : Prop :=
  ∀ (seg unk c0 c1 c2 c3 c4 c5 c6 : Byte) (s : State), seg ≠ 0x01 → s.lcdOff ≤ 63 →
    let chunk := [c0, c1, c2, c3, c4, c5, c6].takeWhile (· != 0xFF)
    let kept := chunk.take (63 - s.lcdOff)
    ∃ l : Vector Byte 64,
      exec (.lcd seg unk c0 c1 c2 c3 c4 c5 c6) s = .next { s with
        lcd := l, lcdOff := s.lcdOff + kept.length,
        diags := if kept.length < chunk.length then s.diags ++ [.lcdOverflow] else s.diags,
        csum := [0xC8, seg, unk, c0, c1, c2, c3, c4, c5, c6].foldl (· ^^^ ·) s.csum, cursor := s.cursor + 10 } ∧
      ∀ a, l[a]? =
        if s.lcdOff ≤ a ∧ a < s.lcdOff + kept.length then kept[a - s.lcdOff]? else s.lcd[a]?

/-- R182, R184, R185: a final segment appends its chunk, writes the terminator after it, pushes the text less its first
byte with the sub-type of that byte (Unknown for an empty text), and empties the accumulator; no byte of a buffer
changes but the appended ones and the terminator. With ten events queued the event is dropped (R66). The code points of digit and space are ASCII (G1, notes:
assumption 16). -/
def Obligations.FinalSegmentPushesTheWholeText : Prop :=
  ∀ (unk c0 c1 c2 c3 c4 c5 c6 : Byte) (s : State), s.lcdOff ≤ 63 →
    let chunk := [c0, c1, c2, c3, c4, c5, c6].takeWhile (· != 0xFF)
    let kept := chunk.take (63 - s.lcdOff)
    let whole := s.lcd.toList.take s.lcdOff ++ kept
    let b := whole.headD 0x00
    let sub : LcdSubType :=
      if b ∈ [0x30, 0x31, 0x32, 0x33, 0x34, 0x35, 0x36, 0x37, 0x38, 0x39, 0x20] then .time
      else if b = 0x14 then .trackTitle else if b = 0x04 then .discTitle else .unknown
    ∃ l : Vector Byte 64,
      exec (.lcd 0x01 unk c0 c1 c2 c3 c4 c5 c6) s = .next { s with
        lcd := l, lcdOff := 0,
        diags := if kept.length < chunk.length then s.diags ++ [.lcdOverflow] else s.diags,
        csum := [0xC8, 0x01, unk, c0, c1, c2, c3, c4, c5, c6].foldl (· ^^^ ·) s.csum, cursor := s.cursor + 10,
        evq := if s.evCount < 10 then s.evq.setIfInBounds s.evCount (.lcdText sub whole.tail) else s.evq,
        evCount := if s.evCount < 10 then s.evCount + 1 else s.evCount } ∧
      ∀ a, l[a]? =
        if a = whole.length then some 0x00
        else if s.lcdOff ≤ a ∧ a < whole.length then kept[a - s.lcdOff]?
        else s.lcd[a]?

/-- R104, R170, R213: every packet completes in every state; every byte of it enters the checksum; `cursor` advances by
the packet's length, the terminator alone leaving it. -/
def Obligations.EveryPacketCompletesAndIsChecksummed : Prop :=
  ∀ (i : Instr) (s : State), ∃ t, exec i s = .next t ∧
    t.csum = (encode i).foldl (· ^^^ ·) s.csum ∧
    t.cursor = s.cursor + (if i = .term then 0 else (encode i).length)

/-- R171: who touches what. -/
def Obligations.PacketHandlersKeepToTheirState : Prop :=
  ∀ (i : Instr) (s t : State), exec i s = .next t →
    t.state = s.state ∧ t.bitIdx = s.bitIdx ∧ t.isInitialized = s.isInitialized ∧
    t.isReadyForText = s.isReadyForText ∧ t.checksumError = s.checksumError ∧
    ((∀ v, i ≠ .capreq v) →
      (∀ a, t.peek .out a = s.peek .out a) ∧ t.outCursor = s.outCursor ∧ t.hasOutboundData = s.hasOutboundData) ∧
    (i ≠ .lcdclr → (∀ seg unk c0 c1 c2 c3 c4 c5 c6, i ≠ .lcd seg unk c0 c1 c2 c3 c4 c5 c6) →
      (∀ a, t.peek .lcd a = s.peek .lcd a) ∧ t.lcdOff = s.lcdOff)

/-! ### The step and the Message Decode Loop -/

/-- R170, R213: inside a decode, the step fetches a packet's bytes and runs the instruction they decode to. -/
def Obligations.StepRunsTheDecodedPacket : Prop :=
  ∀ (r s s1 : State) (bs rest : List Byte) (i : Instr),
    r.mainSees s → s.activity = .decoding → s.termSeen = false → s.cursor < 10 → s.draining = false →
    s.fetchPacket = some (bs, s1) → decode bs = .ok i rest → step r = exec i s1

/-- R153: from a captured message the packet is the one whose bytes lie at the read index. -/
def Obligations.CapturedPacketIsExecuted : Prop :=
  ∀ (r s : State) (m : Vector Byte 11) (i : Instr),
    r.mainSees s → s.activity = .decoding → s.termSeen = false → s.cursor < 10 → s.draining = false →
    s.src = .captured m → i.wellFormed = true →
    (∀ k, k < (encode i).length → m[s.readIdx + k]? = (encode i)[k]?) →
    step r = exec i { s with readIdx := s.readIdx + (encode i).length }

/-- R94, R152: from the bus the packet is the one whose bits the next cells carry, each byte bit 0 first. -/
def Obligations.BusPacketIsExecuted : Prop :=
  ∀ (r s : State) (cells rest : List Nat) (i : Instr),
    r.mainSees s → s.activity = .decoding → s.termSeen = false → s.cursor < 10 → s.draining = false →
    s.src = .bus → i.wellFormed = true → s.pulses = cells ++ rest →
    cells.map (dataBit s.cfg.ranges) = (encode i).flatMap byteBits →
    step r = exec i { s with pulses := rest, readIdx := s.readIdx + (encode i).length }

/-- R216: while draining, a byte is counted and checksummed and nothing else, whatever its value. -/
def Obligations.DrainedByteIsOnlyCounted : Prop :=
  ∀ (r s s1 : State) (b : Byte),
    r.mainSees s → s.activity = .decoding → s.termSeen = false → s.cursor < 10 → s.draining = true →
    s.takeByte = some (b, s1) →
    step r = .next { s1 with csum := s1.csum ^^^ b, cursor := s1.cursor + 1 }

/-- R217: after the budget or a terminator, exactly one checksum byte is read and the verdict is stored; the decode is
over, and `decodeNext` answers true (R316). -/
def Obligations.ChecksumByteStoresTheVerdict : Prop :=
  ∀ (r s s1 : State) (k : Byte),
    r.mainSees s → s.activity = .decoding → (s.termSeen = true ∨ 10 ≤ s.cursor) → s.takeByte = some (k, s1) →
    step r = .next { s1 with
      csum := s1.csum ^^^ k, checksumError := decide (s1.csum ^^^ k ≠ 0x00), activity := .idle,
      results := if s1.src = .bus then s1.results else s1.results ++ [.decoded true] }

/-- R154, R158: along the decode of a captured message, `csum` is the XOR of every byte read so far, and the verdict is
whether the XOR of all of them is not zero; for reads that stay inside the message. -/
def Obligations.ChecksumCoversEveryByteRead : Prop :=
  ∀ (r s t : State) (m : Vector Byte 11),
    r.mainSees s → s.activity = .decoding → s.src = .captured m →
    s.csum = (m.toList.take s.readIdx).foldl (· ^^^ ·) (0x00 : Byte) →
    step r = .next t → t.readIdx ≤ 11 →
    t.csum = (m.toList.take t.readIdx).foldl (· ^^^ ·) (0x00 : Byte) ∧
    (t.activity = .idle →
      t.checksumError = decide ((m.toList.take t.readIdx).foldl (· ^^^ ·) (0x00 : Byte) ≠ 0x00))

/-- R74: a byte read past a captured message is a free value (an uninterpreted constant of the model, notes:
assumption 5), and the overrun is reported once per message. -/
def Obligations.ReadPastTheMessageIsFree : Prop :=
  ∀ (s : State) (m : Vector Byte 11), s.src = .captured m → 11 ≤ s.readIdx →
    s.takeByte = some (Config.freeByte s.freeIdx, { s with
      readIdx := s.readIdx + 1, freeIdx := s.freeIdx + 1, overrun := true,
      diags := if s.overrun = true then s.diags else s.diags ++ [.bufferOverrun] })

/-! ### The codec and the classifier -/

/-- R156: a byte written bit by bit and read back from the cells is the byte, and it enters the checksum. A written cell is
the low pulse of the duration that `waveform` gives the bit (notes: assumption 13). -/
def Obligations.WrittenByteReadsBack : Prop :=
  ∀ (s r : State) (v : Byte) (rest : List Nat), waveformOk r.cfg → r.src = .bus →
    ∃ bits, (s.writeByte v).tx = s.tx ++ bits ∧
      State.readByte { r with pulses := bits.map (writtenPulse r.cfg.waveform) ++ rest } =
        some (v, { r with pulses := rest, readIdx := r.readIdx + 1, csum := r.csum ^^^ v })

/-- R61, R153, R262: the eleven bytes that the edge-driven framer captures from 88 bit cells, and queues, are the bytes
that the polled variant's `readByte` assembles from the same cells. -/
def Obligations.CapturedBytesAreTheBytesOnTheBus : Prop :=
  ∀ (s : State) (cells : List Nat),
    s.state = .playerSending → s.bitIdx = 0 → s.msg = Vector.replicate 11 0 → s.cmqHead < 10 → s.cmqLen < 10 →
    cells.length = 88 →
    (∀ d ∈ cells, d ≤ s.cfg.noiseMaxUs ∧ inRange d s.cfg.ranges.presync = false) →
    ∃ m : Vector Byte 11,
      cells.foldl (fun s d => State.onPulse d s) s = { s with
        state := .awaitingMessage, bitIdx := 0, msg := m,
        cmq := s.cmq.setIfInBounds ((s.cmqHead + s.cmqLen) % 10) m, cmqLen := s.cmqLen + 1 } ∧
      ∀ j, (h : j < 11) → readBusByte s.cfg.ranges (cells.drop (8 * j)) = some (m[j], cells.drop (8 * j + 8))

/-- R131: the range test, and its boundary cases. -/
def Obligations.RangesAreClosedOpen : Prop :=
  ∀ (r : PulseRange) (d : Nat),
    (inRange d r = true ↔ r.lo ≤ d ∧ d < r.hi) ∧
    (r.lo < r.hi → inRange r.lo r = true ∧ inRange r.hi r = false ∧ inRange (r.hi - 1) r = true)

/-- R10, R132, R133: with an adjacent-range-safe table each symbol of a first pulse is its own range, whichever is tested
first; with any table the second pulse is a sync iff it lies in the sync range. -/
def Obligations.SafeTableMakesTestOrderImmaterial : Prop :=
  (∀ (t : RangeTable) (d : Nat), adjacentRangeSafe t →
    (classifyStart t d = .presyncReset ↔ inRange d t.presyncReset = true) ∧
    (classifyStart t d = .presync ↔ inRange d t.presync = true) ∧
    (classifyStart t d = .invalid ↔ inRange d t.presyncReset = false ∧ inRange d t.presync = false)) ∧
  (∀ (t : RangeTable) (d : Nat),
    (classifySync t d = .sync ↔ t.sync.lo ≤ d ∧ d < t.sync.hi) ∧
    (classifySync t d = .invalid ↔ ¬(t.sync.lo ≤ d ∧ d < t.sync.hi)))

/-- R134, R94 (conflict C2): a bit cell is 0 iff its duration lies in the data-bit-low range, and 1 otherwise; a data pulse is
never invalid. The corner cases are those of R134, for the default table. -/
def Obligations.DataBitIsTheNegatedRange : Prop :=
  (∀ (t : RangeTable) (d : Nat),
    (dataBit t d = false ↔ t.dataBitLow.lo ≤ d ∧ d < t.dataBitLow.hi) ∧
    (dataBit t d = true ↔ d < t.dataBitLow.lo ∨ t.dataBitLow.hi ≤ d) ∧
    (classifyData t d = .dataBitZero ↔ dataBit t d = false) ∧
    (classifyData t d = .dataBitOne ↔ dataBit t d = true) ∧
    classifyData t d ≠ .invalid) ∧
  [0, 99, 100, 150, 249, 250, 1000000, 50].map (dataBit Config.defaultRanges) =
    [true, true, false, false, false, true, true, true]

/-! ### The edge-driven framer -/

/-- R251, R252, R341, R375: the host registers the callback; from then on an edge advances the timer and is timed; a
falling edge does nothing more, a rising edge hands the pulse's duration to `OnPulse`. Before the registration, and in the
polled variant, an interrupt turn takes no edge. Time between edges is an input (notes: assumption 3); that the registration
is a host command is the model's choice (notes: assumption 17). -/
def Obligations.RisingEdgeClosesAPulse : Prop :=
  (∀ (r s : State) (cs : List Command), s.cfg.variant = .edgeDriven → r.mainSees s → s.activity = .idle →
    s.cmds = .registerEdgeCallback :: cs → step r = .next { s with cmds := cs, edgeEnabled := true }) ∧
  (∀ r s : State, r.interruptSees s → (s.edgeEnabled = false ∨ s.cfg.variant = .polled) → step r = .next s) ∧
  (∀ (r s : State) (dt : Nat) (es : List Nat),
    s.cfg.variant = .edgeDriven → s.edgeEnabled = true → r.interruptSees s → s.edges = dt :: es →
    (s.lineHigh = true →
      step r = .next { s with edges := es, usNow := s.usNow + dt, lineHigh := false, tLast := s.usNow + dt }) ∧
    (s.lineHigh = false →
      step r = .next (State.onPulse (s.usNow + dt - s.tLast) { s with
        edges := es, usNow := s.usNow + dt, lineHigh := true, tLast := s.usNow + dt })))

/-- R254: a pulse above the noise bound is as if it had not happened. -/
def Obligations.NoiseChangesNothing : Prop :=
  ∀ (s : State) (d : Nat), s.cfg.noiseMaxUs < d → State.onPulse d s = s

/-- R255: a presync-length pulse starts a frame in every state. -/
def Obligations.PresyncResynchronisesInEveryState : Prop :=
  ∀ (s : State) (d : Nat), d ≤ s.cfg.noiseMaxUs → inRange d s.cfg.ranges.presync = true →
    State.onPulse d s = { s with state := .beforeSync, bitIdx := 0 }

/-- R256, R257, R372, R373: the first and the second pulse of a frame. A reset-range pulse in `AwaitingMessage` clears the
three session flags and the Outbound Buffer and nothing else; every other stray pulse only returns to idle. -/
def Obligations.FirstAndSecondPulse : Prop :=
  ∀ (s : State) (d : Nat), s.cfg.variant = .edgeDriven → d ≤ s.cfg.noiseMaxUs →
    inRange d s.cfg.ranges.presync = false →
    (s.state = .awaitingMessage → inRange d s.cfg.ranges.presyncReset = true →
      State.onPulse d s = { s with
        isInitialized := false, isReadyForText := false, hasOutboundData := false,
        out := Vector.replicate 11 0, outCursor := 0, state := .awaitingMessage, bitIdx := 0 }) ∧
    (s.state = .awaitingMessage → inRange d s.cfg.ranges.presyncReset = false →
      State.onPulse d s = { s with state := .awaitingMessage, bitIdx := 0 }) ∧
    (s.state = .beforeSync → inRange d s.cfg.ranges.sync = true →
      State.onPulse d s = { s with state := .inRemoteHeader, bitIdx := 0 }) ∧
    (s.state = .beforeSync → inRange d s.cfg.ranges.sync = false →
      State.onPulse d s = { s with state := .awaitingMessage, bitIdx := 0 })

/-- R100, R258: header bit `bitIdx` is written, from the flags as they are now; the eighth bit ends the phase. -/
def Obligations.RemoteHeaderBitIsWritten : Prop :=
  ∀ (s : State) (d : Nat), d ≤ s.cfg.noiseMaxUs → inRange d s.cfg.ranges.presync = false →
    s.state = .inRemoteHeader → s.bitIdx ≤ 7 →
    State.onPulse d s = { s with
      tx := s.tx ++ [[false, false, s.isReadyForText, false, false, s.hasOutboundData, false,
        s.isInitialized].getD s.bitIdx false],
      state := if s.bitIdx = 7 then .inPlayerHeader else .inRemoteHeader,
      bitIdx := if s.bitIdx = 7 then 0 else s.bitIdx + 1 }

/-- R259: the first seven player header bits are gathered, bit 0 clearing the byte first. -/
def Obligations.PlayerHeaderBitIsGathered : Prop :=
  ∀ (s : State) (d : Nat), d ≤ s.cfg.noiseMaxUs → inRange d s.cfg.ranges.presync = false →
    s.state = .inPlayerHeader → s.bitIdx < 7 →
    ∃ f : Byte, State.onPulse d s = { s with flagsByte := f, bitIdx := s.bitIdx + 1 } ∧
      ∀ j, j < 8 → f.getLsbD j =
        ((decide (s.bitIdx ≠ 0) && s.flagsByte.getLsbD j) || (decide (j = s.bitIdx) && dataBit s.cfg.ranges d))

/-- R102, R260: the eighth bit is stored and the frame branches; bits 1 to 3 and 5 to 7 of the header have no effect, and
an initialisation ignores the whole header. -/
def Obligations.EighthHeaderBitDecides : Prop :=
  ∀ (s : State) (d : Nat), d ≤ s.cfg.noiseMaxUs → inRange d s.cfg.ranges.presync = false →
    s.state = .inPlayerHeader → s.bitIdx = 7 →
    ∃ f : Byte,
      (∀ j, j < 8 → f.getLsbD j = (s.flagsByte.getLsbD j || (decide (j = 7) && dataBit s.cfg.ranges d))) ∧
      (s.isInitialized = false →
        State.onPulse d s = { s with
          flagsByte := f, isInitialized := true, isReadyForText := true, state := .awaitingMessage, bitIdx := 0 }) ∧
      (s.isInitialized = true → s.flagsByte.getLsbD 0 = false → s.flagsByte.getLsbD 4 = false →
        State.onPulse d s = { s with
          flagsByte := f, msg := Vector.replicate 11 0, state := .playerSending, bitIdx := 0 }) ∧
      (s.isInitialized = true → s.flagsByte.getLsbD 4 = true → s.hasOutboundData = true →
        State.onPulse d s = { s with flagsByte := f, state := .remoteSending, bitIdx := 0 }) ∧
      (s.isInitialized = true → (s.flagsByte.getLsbD 4 = true ∧ s.hasOutboundData = false ∨
          s.flagsByte.getLsbD 4 = false ∧ s.flagsByte.getLsbD 0 = true) →
        State.onPulse d s = { s with flagsByte := f, state := .awaitingMessage, bitIdx := 0 })

/-- R262, R263: one bit into `MSG[bitIdx div 8][bitIdx mod 8]`; the 88th queues the message, or drops it with a diagnostic
when ten are waiting. No other bit of `MSG` changes. -/
def Obligations.PlayerMessageBitIsStored : Prop :=
  ∀ (s : State) (d : Nat), d ≤ s.cfg.noiseMaxUs → inRange d s.cfg.ranges.presync = false →
    s.state = .playerSending → s.bitIdx ≤ 87 →
    ∃ m : Vector Byte 11,
      (∀ k, getBit m k = (getBit s.msg k || (decide (k = s.bitIdx) && dataBit s.cfg.ranges d))) ∧
      (s.bitIdx < 87 → State.onPulse d s = { s with msg := m, bitIdx := s.bitIdx + 1 }) ∧
      (s.bitIdx = 87 → s.cmqLen < 10 → State.onPulse d s = { s with
        msg := m, cmq := s.cmq.setIfInBounds ((s.cmqHead + s.cmqLen) % 10) m, cmqLen := s.cmqLen + 1,
        state := .awaitingMessage, bitIdx := 0 }) ∧
      (s.bitIdx = 87 → 10 ≤ s.cmqLen → State.onPulse d s = { s with
        msg := m, diags := s.diags ++ [.queueOverflow], state := .awaitingMessage, bitIdx := 0 })

/-- R261, R297: one bit of `OUT` is written; the 88th clears the buffer, its cursor and the flag. -/
def Obligations.OutboundBitIsSent : Prop :=
  ∀ (s : State) (d : Nat), d ≤ s.cfg.noiseMaxUs → inRange d s.cfg.ranges.presync = false →
    s.state = .remoteSending →
    (s.bitIdx < 87 → State.onPulse d s = { s with
      tx := s.tx ++ [(s.out[s.bitIdx / 8]?.getD 0).getLsbD (s.bitIdx % 8)], bitIdx := s.bitIdx + 1 }) ∧
    (s.bitIdx = 87 → State.onPulse d s = { s with
      tx := s.tx ++ [s.out[10].getLsbD 7], out := Vector.replicate 11 0, outCursor := 0,
      hasOutboundData := false, state := .awaitingMessage, bitIdx := 0 })

/-- R267, R373: with the noise bound below the reset range, no turn of the edge-driven interrupt context performs a session
reset: it lowers neither `isInitialized` nor `isReadyForText`, and it leaves the outbound state (`hasOutboundData`, `OUT`,
`outCursor`) alone but in the invocation that sends the 88th outbound bit (R261). -/
def Obligations.NoSessionResetBelowTheNoiseBound : Prop :=
  ∀ r s t : State, s.cfg.variant = .edgeDriven →
    s.cfg.noiseMaxUs < s.cfg.ranges.presyncReset.lo → r.interruptSees s → step r = .next t →
    (s.isInitialized = true → t.isInitialized = true) ∧ (s.isReadyForText = true → t.isReadyForText = true) ∧
    (t.hasOutboundData ≠ s.hasOutboundData ∨ t.out ≠ s.out ∨ t.outCursor ≠ s.outCursor →
      s.state = .remoteSending ∧ s.bitIdx = 87 ∧ ∃ b, t.tx = s.tx ++ [b])

/-! ### The polled framer -/

/-- R232, R233, R315: `pollFrame` starts at the presync; the first and the second pulse of the call. The writes of `state`
and `bitIdx` in the reset clause are the model's choice (the polled variant has neither, R29; notes: assumption 22). -/
def Obligations.PolledFirstAndSecondPulse : Prop :=
  (∀ (r s : State) (cs : List Command), s.cfg.variant = .polled → r.mainSees s → s.activity = .idle →
    s.cmds = .pollFrame :: cs → step r = .next { s with cmds := cs, activity := .awaitPresync }) ∧
  (∀ (r s : State) (d : Nat) (ps : List Nat), s.cfg.variant = .polled → r.mainSees s → s.pulses = d :: ps →
    (s.activity = .awaitPresync → inRange d s.cfg.ranges.presyncReset = true →
      step r = .next { s with
        pulses := ps, activity := .idle, isInitialized := false, isReadyForText := false, hasOutboundData := false,
        out := Vector.replicate 11 0, outCursor := 0, state := .awaitingMessage, bitIdx := 0 }) ∧
    (s.activity = .awaitPresync → inRange d s.cfg.ranges.presyncReset = false →
      inRange d s.cfg.ranges.presync = true → step r = .next { s with pulses := ps, activity := .awaitSync }) ∧
    (s.activity = .awaitPresync → inRange d s.cfg.ranges.presyncReset = false →
      inRange d s.cfg.ranges.presync = false → step r = .next { s with pulses := ps, activity := .idle }) ∧
    (s.activity = .awaitSync → inRange d s.cfg.ranges.sync = true →
      step r = .next { s with pulses := ps, activity := .remoteHeader }) ∧
    (s.activity = .awaitSync → inRange d s.cfg.ranges.sync = false →
      step r = .next { s with pulses := ps, activity := .idle }))

/-- R100, R234: the eight remote header bits, in order. -/
def Obligations.PolledRemoteHeaderIsWritten : Prop :=
  ∀ r s : State, r.mainSees s → s.activity = .remoteHeader →
    step r = .next { s with
      tx := s.tx ++ [false, false, s.isReadyForText, false, false, s.hasOutboundData, false, s.isInitialized],
      activity := .playerHeader }

/-- R236, R237, R238: eight cells make the player header, and the call branches on it; a message decode starts with the
Event Queue emptied (R212). -/
def Obligations.PolledPlayerHeaderDecides : Prop :=
  ∀ (r s : State) (p0 p1 p2 p3 p4 p5 p6 p7 : Nat) (ps : List Nat),
    r.mainSees s → s.activity = .playerHeader → s.pulses = p0 :: p1 :: p2 :: p3 :: p4 :: p5 :: p6 :: p7 :: ps →
    ∃ f : Byte,
      (∀ j, j < 8 →
        f.getLsbD j = dataBit s.cfg.ranges ([p0, p1, p2, p3, p4, p5, p6, p7].getD j 0)) ∧
      (s.isInitialized = false → step r = .next { s with
        pulses := ps, flagsByte := f, isInitialized := true, isReadyForText := true, activity := .idle }) ∧
      (s.isInitialized = true → dataBit s.cfg.ranges p0 = false → dataBit s.cfg.ranges p4 = false →
        step r = .next { s with
          pulses := ps, flagsByte := f, evCount := 0, csum := 0x00, cursor := 0, draining := false,
          activity := .decoding, src := .bus, readIdx := 0, termSeen := false, overrun := false }) ∧
      (s.isInitialized = true → dataBit s.cfg.ranges p4 = true → s.hasOutboundData = true → s.outCursor ≤ 88 →
        step r = .next { s with
          pulses := ps, flagsByte := f, tx := s.tx ++ (List.range s.outCursor).map (getBit s.out),
          out := Vector.replicate 11 0, outCursor := 0, hasOutboundData := false, activity := .idle }) ∧
      (s.isInitialized = true → (dataBit s.cfg.ranges p4 = true ∧ s.hasOutboundData = false ∨
          dataBit s.cfg.ranges p4 = false ∧ dataBit s.cfg.ranges p0 = true) →
        step r = .next { s with pulses := ps, flagsByte := f, activity := .idle })

/-- R382 (U17): a polled call that has run out of pulses, between two bytes or in the middle of one or of a packet, has no
next step (the model's named stop, notes: assumption 7). -/
def Obligations.PolledCallWithoutPulsesIsStuck : Prop :=
  (∀ r s : State, r.mainSees s →
    ((s.activity = .awaitPresync ∨ s.activity = .awaitSync) ∧ s.pulses = [] ∨
      s.activity = .playerHeader ∧ s.pulses.length < 8 ∨
      s.activity = .decoding ∧ s.src = .bus ∧ s.pulses.length < 8) →
    step r = .fault .stuckNoPulse) ∧
  (∀ (r s : State) (ty : Byte) (cells rest : List Nat), r.mainSees s →
    s.activity = .decoding → s.src = .bus → s.termSeen = false → s.cursor < 10 → s.draining = false →
    s.pulses = cells ++ rest → cells.map (dataBit s.cfg.ranges) = byteBits ty → rest.length < 8 * payloadBytes ty →
    step r = .fault .stuckNoPulse)

/-! ### Host commands, the Outbound Message Builder, the queues -/

/-- R291, R292, R294: a host queue operation writes its bits at the cursor and no other bit, or is dropped whole. -/
def Obligations.QueuedBitsLandAtTheCursor : Prop :=
  ∀ (r s : State) (cs : List Command) (v : Byte) (b : Bool), r.mainSees s → s.activity = .idle →
    (s.cmds = .queueOutboundBit b :: cs → s.outCursor < 88 →
      ∃ o : Vector Byte 11, step r = .next { s with cmds := cs, out := o, outCursor := s.outCursor + 1 } ∧
        ∀ k, getBit o k = (getBit s.out k || (decide (k = s.outCursor) && b))) ∧
    (s.cmds = .queueOutboundBit b :: cs → 88 ≤ s.outCursor →
      step r = .next { s with cmds := cs, diags := s.diags ++ [.outboundOverflow] }) ∧
    (s.cmds = .queueOutboundByte v :: cs → s.outCursor + 8 ≤ 88 →
      ∃ o : Vector Byte 11, step r = .next { s with cmds := cs, out := o, outCursor := s.outCursor + 8 } ∧
        ∀ k, getBit o k =
          (getBit s.out k || (decide (s.outCursor ≤ k ∧ k < s.outCursor + 8) && v.getLsbD (k - s.outCursor)))) ∧
    (s.cmds = .queueOutboundByte v :: cs → 88 < s.outCursor + 8 →
      step r = .next { s with cmds := cs, diags := s.diags ++ [.outboundOverflow] })

/-- R293, R312: finalizing raises the flag and nothing else, whatever is queued; asking for the checksum verdict answers it
and changes nothing. -/
def Obligations.FinalizeAndChecksumQuery : Prop :=
  ∀ (r s : State) (cs : List Command), r.mainSees s → s.activity = .idle →
    (s.cmds = .finalizeOutboundMessage :: cs → step r = .next { s with cmds := cs, hasOutboundData := true }) ∧
    (s.cmds = .hasChecksumError :: cs →
      step r = .next { s with cmds := cs, results := s.results ++ [.checksumError s.checksumError] })

/-- R66, R311: `nextEvent` answers `EVQ[evCount - 1]` and removes it, so the event pushed last is answered first; with none
queued it answers Empty and changes nothing else. -/
def Obligations.EventsPopNewestFirst : Prop :=
  (∀ (r s : State) (cs : List Command) (e : RemoteEvent), r.mainSees (s.pushEvent e) → s.activity = .idle →
    s.cmds = .nextEvent :: cs → s.evCount < 10 → e ≠ .none →
    step r = .next { s with
      cmds := cs, evq := s.evq.setIfInBounds s.evCount e, results := s.results ++ [.event e] }) ∧
  (∀ (r s : State) (cs : List Command), r.mainSees s → s.activity = .idle → s.cmds = .nextEvent :: cs →
    0 < s.evCount → (h : s.evCount - 1 < 10) →
    step r = .next { s with
      cmds := cs, evCount := s.evCount - 1, results := s.results ++ [.event s.evq[s.evCount - 1]] }) ∧
  (∀ (r s : State) (cs : List Command), r.mainSees s → s.activity = .idle → s.cmds = .nextEvent :: cs →
    s.evCount = 0 → step r = .next { s with cmds := cs, results := s.results ++ [.empty] })

/-- R64, R263, R316: the completed-message queue is first in, first out: an enqueue keeps every waiting message in its
place and puts the new one behind them, a removal moves every later message one place forward, and a full queue
drops the new message. -/
def Obligations.MessagesAreFirstInFirstOut : Prop :=
  ∀ s : State, s.cmqHead < 10 → s.cmqLen ≤ 10 →
    let oldest := fun (u : State) (i : Nat) => u.cmq[(u.cmqHead + i) % 10]?
    (s.cmqLen < 10 →
      s.enqueueCompleted.cmqLen = s.cmqLen + 1 ∧ oldest s.enqueueCompleted s.cmqLen = some s.msg ∧
      ∀ i, i < s.cmqLen → oldest s.enqueueCompleted i = oldest s i) ∧
    (s.cmqLen = 10 → s.enqueueCompleted = { s with diags := s.diags ++ [.queueOverflow] }) ∧
    (0 < s.cmqLen →
      oldest s 0 = some s.cmqFront ∧ s.cmqPop.cmqLen = s.cmqLen - 1 ∧
      ∀ i, i + 1 < s.cmqLen → oldest s.cmqPop i = oldest s (i + 1))

/-- R212, R316: `decodeNext` on an empty queue answers false and starts nothing; otherwise it removes the oldest message and
starts its decode with the Event Queue emptied. -/
def Obligations.DecodeNextTakesTheOldestMessage : Prop :=
  ∀ (r s : State) (cs : List Command), s.cfg.variant = .edgeDriven → r.mainSees s → s.activity = .idle →
    s.cmds = .decodeNext :: cs →
    (s.cmqLen = 0 → step r = .next { s with cmds := cs, results := s.results ++ [.decoded false] }) ∧
    (s.cmqLen ≠ 0 → ∀ h : s.cmqHead < 10, step r = .next { s with
      cmds := cs, cmqHead := (s.cmqHead + 1) % 10, cmqLen := s.cmqLen - 1, evCount := 0, csum := 0x00, cursor := 0,
      draining := false, activity := .decoding, src := .captured s.cmq[s.cmqHead], readIdx := 0, termSeen := false,
      overrun := false })

/-! ### Resets -/

/-- R45, R370, R375 (2): the values the spec states for power-on reset (the others are the model's, notes: assumption 2); the
edge callback is not registered and the line is high (D41). -/
def Obligations.ResetLeavesTheStatedValues : Prop :=
  let r := State.reset
  r.isInitialized = false ∧ r.isReadyForText = false ∧ r.hasOutboundData = false ∧ r.checksumError = false ∧
  r.state = .awaitingMessage ∧ r.bitIdx = 0 ∧ (∀ i, i < 11 → r.peek .out i = some 0x00) ∧ r.outCursor = 0 ∧
  r.lcdOff = 0 ∧ r.evCount = 0 ∧ r.cmqHead = 0 ∧ r.cmqLen = 0 ∧ r.edgeEnabled = false ∧ r.lineHigh = true

/-- R370, R375 (2): a power-on reset, in any state and in the middle of anything, puts those values back, the callback
unregistered and the line high among them; that the configuration and what has been put out stay is the model's choice
(notes: assumption 18). -/
def Obligations.PowerOnTurnResets : Prop :=
  ∀ (s : State) (ts : List Turn), s.sched = .powerOn :: ts → ∃ t, step s = .next t ∧
    t.isInitialized = false ∧ t.isReadyForText = false ∧ t.hasOutboundData = false ∧ t.checksumError = false ∧
    t.state = .awaitingMessage ∧ t.bitIdx = 0 ∧ (∀ i, i < 11 → t.peek .out i = some 0x00) ∧ t.outCursor = 0 ∧
    t.lcdOff = 0 ∧ t.evCount = 0 ∧ t.cmqHead = 0 ∧ t.cmqLen = 0 ∧ t.edgeEnabled = false ∧ t.lineHigh = true ∧ t.activity = .idle ∧
    t.cfg = s.cfg ∧ t.tx = s.tx ∧ t.diags = s.diags ∧ t.results = s.results

/-! ### The whole machine -/

/-- R36, R392: no step writes the build-time configuration. -/
def Obligations.ConfigurationIsNeverWritten : Prop :=
  ∀ s t : State, step s = .next t → t.cfg = s.cfg

/-- The invariant of Safety.lean holds after reset, whatever the values that R45 leaves unspecified, and whatever the time:
no value of log entries 2 and 3 enters it. -/
def Obligations.ResetMeetsTheInvariant : Prop :=
  ∀ (flags sum : Byte) (last now cur : Nat) (msg : Vector Byte 11) (cmq : Vector (Vector Byte 11) 10)
    (lcd : Vector Byte 64) (evq : Vector RemoteEvent 10),
    State.Inv { State.reset with
      flagsByte := flags, csum := sum, tLast := last, usNow := now, cursor := cur, msg := msg, cmq := cmq, lcd := lcd,
      evq := evq }

/-- R23, R31, R62, R72, R221, R222, R266: every step keeps the invariant of Safety.lean, from every state that meets it. -/
def Obligations.EveryStepKeepsTheInvariant : Prop :=
  ∀ s t : State, s.Inv → step s = .next t → t.Inv

/-- R331: in the edge-driven variant no error stops the machine: whatever the edges, the messages and the schedule, a step
completes, as long as the host issues commands that the variant has (notes: assumption 8). -/
def Obligations.EdgeDrivenMachineNeverStops : Prop :=
  ∀ s : State, s.cfg.variant = .edgeDriven → s.Inv → s.commandsFit →
    ∃ t, step s = .next t ∧ t.commandsFit

/-- R331, R382: in the polled variant a step completes whenever the ten bytes of the longest packet are still to come, and
otherwise stops in no way but by running out of pulses (the model's named stop, notes: assumption 7). -/
def Obligations.PolledMachineStopsOnlyWithoutPulses : Prop :=
  ∀ s : State, s.cfg.variant = .polled → s.commandsFit →
    (80 ≤ s.pulses.length → ∃ t, step s = .next t ∧ t.commandsFit) ∧
    ((∃ t, step s = .next t ∧ t.commandsFit) ∨ step s = .fault .stuckNoPulse)

/-- R46: the interrupt context writes nothing that the table gives to the main context alone, and of the shared state it
never raises `hasOutboundData` and never removes a message. -/
def Obligations.InterruptContextKeepsOutOfMainState : Prop :=
  ∀ r s t : State, r.interruptSees s → step r = .next t →
    (∀ a, t.peek .lcd a = s.peek .lcd a) ∧ t.lcdOff = s.lcdOff ∧ t.evq = s.evq ∧ t.evCount = s.evCount ∧
    t.checksumError = s.checksumError ∧ t.csum = s.csum ∧ t.cursor = s.cursor ∧ t.cmqHead = s.cmqHead ∧
    s.cmqLen ≤ t.cmqLen ∧ (t.hasOutboundData = true → s.hasOutboundData = true) ∧
    t.activity = s.activity ∧ t.src = s.src ∧ t.readIdx = s.readIdx ∧ t.draining = s.draining ∧
    t.termSeen = s.termSeen ∧ t.overrun = s.overrun ∧ t.cmds = s.cmds ∧ t.results = s.results

/-- R46: in the edge-driven variant the main context writes nothing that the table gives to the interrupt context alone,
of the shared state it never lowers `hasOutboundData` and never adds a message, and it writes no bit to the bus. -/
def Obligations.MainContextKeepsOutOfFramerState : Prop :=
  ∀ r s t : State, s.cfg.variant = .edgeDriven → r.mainSees s →
    (s.activity = .idle ∨ s.activity = .decoding) → step r = .next t →
    t.state = s.state ∧ t.bitIdx = s.bitIdx ∧ t.flagsByte = s.flagsByte ∧ t.tLast = s.tLast ∧
    (∀ a, t.peek .msg a = s.peek .msg a) ∧ t.isInitialized = s.isInitialized ∧
    t.isReadyForText = s.isReadyForText ∧ (∀ n a, t.peek (.cmq n) a = s.peek (.cmq n) a) ∧
    t.cmqLen ≤ s.cmqLen ∧ (s.hasOutboundData = true → t.hasOutboundData = true) ∧
    s.outCursor ≤ t.outCursor ∧ t.tx = s.tx ∧ t.edges = s.edges

/-- R32: `checksumError` changes only at the end of a message decode, or by a power-on reset. -/
def Obligations.ChecksumFlagChangesOnlyAtDecodeEnd : Prop :=
  ∀ s t : State, step s = .next t → t.checksumError ≠ s.checksumError →
    (∃ ts, s.sched = .powerOn :: ts) ∨
    (s.activity = .decoding ∧ (s.termSeen = true ∨ 10 ≤ s.cursor) ∧ t.activity = .idle)

/-- R300, R379: a step of a message decode writes no bit to the bus and removes nothing that is staged: a reply waits for
a later frame. -/
def Obligations.DecodingSendsNothing : Prop :=
  ∀ r s t : State, r.mainSees s → s.activity = .decoding → step r = .next t →
    t.tx = s.tx ∧ s.outCursor ≤ t.outCursor ∧ (s.hasOutboundData = true → t.hasOutboundData = true) ∧
    ∀ k, getBit s.out k = true → getBit t.out k = true
end

