-- ==== Sys2Proof/Laws/Buffers.lean ====
section
/-! SUPPORT. The laws of the bit-addressed buffers: a read after a write, and what a write leaves alone (R61, R62). -/

namespace Sys2Proof.Machine

theorem getLsbD_bitAt (b : Bool) (i j : Nat) (hi : i < 8) : (bitAt b i).getLsbD j = (b && decide (i = j)) := by
  cases b
  · simp [bitAt]
  · simp only [bitAt, Bool.true_and, if_true]
    rw [BitVec.getLsbD_shiftLeft]
    by_cases h : i = j
    · subst h; simp [hi]
    · by_cases h2 : j < i
      · simp [h2, h]
      · by_cases h8 : j < 8
        · have h3 : ¬ (j - i = 0) := by omega
          simp [h2, h, h8, BitVec.getLsbD_one, h3]
        · simp [h8, h]

/-- Reading any bit after ORing a bit in at `k`. -/
theorem getBit_orBit (buf : Vector Byte 11) (k j : Nat) (b : Bool) (hk : k < 88) :
    getBit (orBit buf k b) j = (getBit buf j || (b && decide (k = j))) := by
  have hk8 : k / 8 < 11 := by omega
  unfold getBit orBit
  rw [Vector.getElem?_setIfInBounds]
  by_cases h : k / 8 = j / 8
  · simp only [h, if_true]
    rw [if_pos (by omega)]
    simp only [Option.getD_some, BitVec.getLsbD_or, getLsbD_bitAt _ _ _ (Nat.mod_lt k (by decide : 0 < 8))]
    congr 2
    apply decide_eq_decide.mpr
    omega
  · have hkj : k ≠ j := fun e => h (by rw [e])
    simp [h, hkj]

/-- A read of a bit that the write is not at. -/
theorem getBit_orBit_ne (buf : Vector Byte 11) {k j : Nat} (b : Bool) (hk : k < 88) (hj : k ≠ j) :
    getBit (orBit buf k b) j = getBit buf j := by
  simp [getBit_orBit buf k j b hk, hj]

/-- Reading any bit after ORing a run of bits in from `k` on. -/
theorem getBit_orBits (bs : List Bool) (buf : Vector Byte 11) (k j : Nat) (hk : k + bs.length ≤ 88) :
    getBit (orBits buf k bs) j = (getBit buf j || (decide (k ≤ j) && bs.getD (j - k) false)) := by
  induction bs generalizing buf k with
  | nil => simp [orBits]
  | cons b bs ih =>
    simp only [List.length_cons] at hk
    rw [orBits, ih _ _ (by omega), getBit_orBit _ _ _ _ (by omega)]
    by_cases h : k = j
    · subst h
      simp
    · by_cases h2 : k ≤ j
      · obtain ⟨m, rfl⟩ : ∃ m, j = k + 1 + m := ⟨j - (k + 1), by omega⟩
        have e1 : k + 1 + m - (k + 1) = m := by omega
        have e2 : k + 1 + m - k = m + 1 := by omega
        simp [h, h2, e1, e2]
      · have h3 : ¬ (k + 1 ≤ j) := by omega
        simp [h, h2, h3]

@[simp] theorem getBit_zeroBuf (k : Nat) : getBit zeroBuf k = false := by
  unfold getBit zeroBuf
  rw [Vector.getElem?_replicate]
  split <;> simp

@[simp] theorem byteBits_length (v : Byte) : (byteBits v).length = 8 := by simp [byteBits]

theorem byteBits_getD (v : Byte) (i : Nat) (h : i < 8) : (byteBits v).getD i false = v.getLsbD i := by
  simp [byteBits, List.getD_eq_getElem?_getD, h]

/-- A byte of an 11-byte buffer by its bits. -/
theorem getLsbD_of_getBit (buf : Vector Byte 11) (j i : Nat) (hi : i < 8) :
    (buf[j]?.getD 0).getLsbD i = getBit buf (8 * j + i) := by
  unfold getBit
  have h1 : (8 * j + i) / 8 = j := by omega
  have h2 : (8 * j + i) % 8 = i := by omega
  rw [h1, h2]

/-- The running checksum from any start is the start XORed with the running checksum from zero. -/
theorem accumulate_eq_xor (c : Byte) (bs : List Byte) : accumulate c bs = c ^^^ accumulate 0 bs := by
  unfold accumulate
  induction bs generalizing c with
  | nil => simp
  | cons b bs ih =>
    simp only [List.foldl_cons]
    rw [ih (c ^^^ b), ih (0 ^^^ b)]
    simp [BitVec.xor_assoc]

theorem accumulate_append (c : Byte) (xs ys : List Byte) :
    accumulate c (xs ++ ys) = accumulate (accumulate c xs) ys := by simp [accumulate]

@[simp] theorem accumulate_nil (c : Byte) : accumulate c [] = c := rfl

@[simp] theorem accumulate_cons (c b : Byte) (bs : List Byte) :
    accumulate c (b :: bs) = accumulate (c ^^^ b) bs := rfl

end Sys2Proof.Machine
end

