-- ==== Sys2Proof/Laws/State.lean ====
section
/-! SUPPORT. For each update of the state, what it makes of each field: the provers cite these and never unfold a
record update. -/

namespace Sys2Proof.Machine

@[simp] theorem State.emitTx_cfg (s : State) (bits : List Bool) : (s.emitTx bits).cfg = s.cfg := rfl
@[simp] theorem State.emitTx_state (s : State) (bits : List Bool) : (s.emitTx bits).state = s.state := rfl
@[simp] theorem State.emitTx_bitIdx (s : State) (bits : List Bool) : (s.emitTx bits).bitIdx = s.bitIdx := rfl
@[simp] theorem State.emitTx_flagsByte (s : State) (bits : List Bool) : (s.emitTx bits).flagsByte = s.flagsByte := rfl
@[simp] theorem State.emitTx_tLast (s : State) (bits : List Bool) : (s.emitTx bits).tLast = s.tLast := rfl
@[simp] theorem State.emitTx_csum (s : State) (bits : List Bool) : (s.emitTx bits).csum = s.csum := rfl
@[simp] theorem State.emitTx_cursor (s : State) (bits : List Bool) : (s.emitTx bits).cursor = s.cursor := rfl
@[simp] theorem State.emitTx_isInitialized (s : State) (bits : List Bool) : (s.emitTx bits).isInitialized = s.isInitialized := rfl
@[simp] theorem State.emitTx_isReadyForText (s : State) (bits : List Bool) : (s.emitTx bits).isReadyForText = s.isReadyForText := rfl
@[simp] theorem State.emitTx_hasOutboundData (s : State) (bits : List Bool) : (s.emitTx bits).hasOutboundData = s.hasOutboundData := rfl
@[simp] theorem State.emitTx_checksumError (s : State) (bits : List Bool) : (s.emitTx bits).checksumError = s.checksumError := rfl
@[simp] theorem State.emitTx_msg (s : State) (bits : List Bool) : (s.emitTx bits).msg = s.msg := rfl
@[simp] theorem State.emitTx_cmq (s : State) (bits : List Bool) : (s.emitTx bits).cmq = s.cmq := rfl
@[simp] theorem State.emitTx_cmqHead (s : State) (bits : List Bool) : (s.emitTx bits).cmqHead = s.cmqHead := rfl
@[simp] theorem State.emitTx_cmqLen (s : State) (bits : List Bool) : (s.emitTx bits).cmqLen = s.cmqLen := rfl
@[simp] theorem State.emitTx_out (s : State) (bits : List Bool) : (s.emitTx bits).out = s.out := rfl
@[simp] theorem State.emitTx_outCursor (s : State) (bits : List Bool) : (s.emitTx bits).outCursor = s.outCursor := rfl
@[simp] theorem State.emitTx_lcd (s : State) (bits : List Bool) : (s.emitTx bits).lcd = s.lcd := rfl
@[simp] theorem State.emitTx_lcdOff (s : State) (bits : List Bool) : (s.emitTx bits).lcdOff = s.lcdOff := rfl
@[simp] theorem State.emitTx_evq (s : State) (bits : List Bool) : (s.emitTx bits).evq = s.evq := rfl
@[simp] theorem State.emitTx_evCount (s : State) (bits : List Bool) : (s.emitTx bits).evCount = s.evCount := rfl
@[simp] theorem State.emitTx_usNow (s : State) (bits : List Bool) : (s.emitTx bits).usNow = s.usNow := rfl
@[simp] theorem State.emitTx_lineHigh (s : State) (bits : List Bool) : (s.emitTx bits).lineHigh = s.lineHigh := rfl
@[simp] theorem State.emitTx_edgeEnabled (s : State) (bits : List Bool) : (s.emitTx bits).edgeEnabled = s.edgeEnabled := rfl
@[simp] theorem State.emitTx_activity (s : State) (bits : List Bool) : (s.emitTx bits).activity = s.activity := rfl
@[simp] theorem State.emitTx_src (s : State) (bits : List Bool) : (s.emitTx bits).src = s.src := rfl
@[simp] theorem State.emitTx_readIdx (s : State) (bits : List Bool) : (s.emitTx bits).readIdx = s.readIdx := rfl
@[simp] theorem State.emitTx_draining (s : State) (bits : List Bool) : (s.emitTx bits).draining = s.draining := rfl
@[simp] theorem State.emitTx_termSeen (s : State) (bits : List Bool) : (s.emitTx bits).termSeen = s.termSeen := rfl
@[simp] theorem State.emitTx_overrun (s : State) (bits : List Bool) : (s.emitTx bits).overrun = s.overrun := rfl
@[simp] theorem State.emitTx_pulses (s : State) (bits : List Bool) : (s.emitTx bits).pulses = s.pulses := rfl
@[simp] theorem State.emitTx_edges (s : State) (bits : List Bool) : (s.emitTx bits).edges = s.edges := rfl
@[simp] theorem State.emitTx_cmds (s : State) (bits : List Bool) : (s.emitTx bits).cmds = s.cmds := rfl
@[simp] theorem State.emitTx_sched (s : State) (bits : List Bool) : (s.emitTx bits).sched = s.sched := rfl
@[simp] theorem State.emitTx_tx (s : State) (bits : List Bool) : (s.emitTx bits).tx = s.tx ++ bits := rfl
@[simp] theorem State.emitTx_diags (s : State) (bits : List Bool) : (s.emitTx bits).diags = s.diags := rfl
@[simp] theorem State.emitTx_results (s : State) (bits : List Bool) : (s.emitTx bits).results = s.results := rfl
@[simp] theorem State.emitTx_freeIdx (s : State) (bits : List Bool) : (s.emitTx bits).freeIdx = s.freeIdx := rfl

@[simp] theorem State.emitDiag_cfg (s : State) (d : Diag) : (s.emitDiag d).cfg = s.cfg := rfl
@[simp] theorem State.emitDiag_state (s : State) (d : Diag) : (s.emitDiag d).state = s.state := rfl
@[simp] theorem State.emitDiag_bitIdx (s : State) (d : Diag) : (s.emitDiag d).bitIdx = s.bitIdx := rfl
@[simp] theorem State.emitDiag_flagsByte (s : State) (d : Diag) : (s.emitDiag d).flagsByte = s.flagsByte := rfl
@[simp] theorem State.emitDiag_tLast (s : State) (d : Diag) : (s.emitDiag d).tLast = s.tLast := rfl
@[simp] theorem State.emitDiag_csum (s : State) (d : Diag) : (s.emitDiag d).csum = s.csum := rfl
@[simp] theorem State.emitDiag_cursor (s : State) (d : Diag) : (s.emitDiag d).cursor = s.cursor := rfl
@[simp] theorem State.emitDiag_isInitialized (s : State) (d : Diag) : (s.emitDiag d).isInitialized = s.isInitialized := rfl
@[simp] theorem State.emitDiag_isReadyForText (s : State) (d : Diag) : (s.emitDiag d).isReadyForText = s.isReadyForText := rfl
@[simp] theorem State.emitDiag_hasOutboundData (s : State) (d : Diag) : (s.emitDiag d).hasOutboundData = s.hasOutboundData := rfl
@[simp] theorem State.emitDiag_checksumError (s : State) (d : Diag) : (s.emitDiag d).checksumError = s.checksumError := rfl
@[simp] theorem State.emitDiag_msg (s : State) (d : Diag) : (s.emitDiag d).msg = s.msg := rfl
@[simp] theorem State.emitDiag_cmq (s : State) (d : Diag) : (s.emitDiag d).cmq = s.cmq := rfl
@[simp] theorem State.emitDiag_cmqHead (s : State) (d : Diag) : (s.emitDiag d).cmqHead = s.cmqHead := rfl
@[simp] theorem State.emitDiag_cmqLen (s : State) (d : Diag) : (s.emitDiag d).cmqLen = s.cmqLen := rfl
@[simp] theorem State.emitDiag_out (s : State) (d : Diag) : (s.emitDiag d).out = s.out := rfl
@[simp] theorem State.emitDiag_outCursor (s : State) (d : Diag) : (s.emitDiag d).outCursor = s.outCursor := rfl
@[simp] theorem State.emitDiag_lcd (s : State) (d : Diag) : (s.emitDiag d).lcd = s.lcd := rfl
@[simp] theorem State.emitDiag_lcdOff (s : State) (d : Diag) : (s.emitDiag d).lcdOff = s.lcdOff := rfl
@[simp] theorem State.emitDiag_evq (s : State) (d : Diag) : (s.emitDiag d).evq = s.evq := rfl
@[simp] theorem State.emitDiag_evCount (s : State) (d : Diag) : (s.emitDiag d).evCount = s.evCount := rfl
@[simp] theorem State.emitDiag_usNow (s : State) (d : Diag) : (s.emitDiag d).usNow = s.usNow := rfl
@[simp] theorem State.emitDiag_lineHigh (s : State) (d : Diag) : (s.emitDiag d).lineHigh = s.lineHigh := rfl
@[simp] theorem State.emitDiag_edgeEnabled (s : State) (d : Diag) : (s.emitDiag d).edgeEnabled = s.edgeEnabled := rfl
@[simp] theorem State.emitDiag_activity (s : State) (d : Diag) : (s.emitDiag d).activity = s.activity := rfl
@[simp] theorem State.emitDiag_src (s : State) (d : Diag) : (s.emitDiag d).src = s.src := rfl
@[simp] theorem State.emitDiag_readIdx (s : State) (d : Diag) : (s.emitDiag d).readIdx = s.readIdx := rfl
@[simp] theorem State.emitDiag_draining (s : State) (d : Diag) : (s.emitDiag d).draining = s.draining := rfl
@[simp] theorem State.emitDiag_termSeen (s : State) (d : Diag) : (s.emitDiag d).termSeen = s.termSeen := rfl
@[simp] theorem State.emitDiag_overrun (s : State) (d : Diag) : (s.emitDiag d).overrun = s.overrun := rfl
@[simp] theorem State.emitDiag_pulses (s : State) (d : Diag) : (s.emitDiag d).pulses = s.pulses := rfl
@[simp] theorem State.emitDiag_edges (s : State) (d : Diag) : (s.emitDiag d).edges = s.edges := rfl
@[simp] theorem State.emitDiag_cmds (s : State) (d : Diag) : (s.emitDiag d).cmds = s.cmds := rfl
@[simp] theorem State.emitDiag_sched (s : State) (d : Diag) : (s.emitDiag d).sched = s.sched := rfl
@[simp] theorem State.emitDiag_tx (s : State) (d : Diag) : (s.emitDiag d).tx = s.tx := rfl
@[simp] theorem State.emitDiag_diags (s : State) (d : Diag) : (s.emitDiag d).diags = s.diags ++ [d] := rfl
@[simp] theorem State.emitDiag_results (s : State) (d : Diag) : (s.emitDiag d).results = s.results := rfl
@[simp] theorem State.emitDiag_freeIdx (s : State) (d : Diag) : (s.emitDiag d).freeIdx = s.freeIdx := rfl

@[simp] theorem State.respond_cfg (s : State) (r : HostResult) : (s.respond r).cfg = s.cfg := rfl
@[simp] theorem State.respond_state (s : State) (r : HostResult) : (s.respond r).state = s.state := rfl
@[simp] theorem State.respond_bitIdx (s : State) (r : HostResult) : (s.respond r).bitIdx = s.bitIdx := rfl
@[simp] theorem State.respond_flagsByte (s : State) (r : HostResult) : (s.respond r).flagsByte = s.flagsByte := rfl
@[simp] theorem State.respond_tLast (s : State) (r : HostResult) : (s.respond r).tLast = s.tLast := rfl
@[simp] theorem State.respond_csum (s : State) (r : HostResult) : (s.respond r).csum = s.csum := rfl
@[simp] theorem State.respond_cursor (s : State) (r : HostResult) : (s.respond r).cursor = s.cursor := rfl
@[simp] theorem State.respond_isInitialized (s : State) (r : HostResult) : (s.respond r).isInitialized = s.isInitialized := rfl
@[simp] theorem State.respond_isReadyForText (s : State) (r : HostResult) : (s.respond r).isReadyForText = s.isReadyForText := rfl
@[simp] theorem State.respond_hasOutboundData (s : State) (r : HostResult) : (s.respond r).hasOutboundData = s.hasOutboundData := rfl
@[simp] theorem State.respond_checksumError (s : State) (r : HostResult) : (s.respond r).checksumError = s.checksumError := rfl
@[simp] theorem State.respond_msg (s : State) (r : HostResult) : (s.respond r).msg = s.msg := rfl
@[simp] theorem State.respond_cmq (s : State) (r : HostResult) : (s.respond r).cmq = s.cmq := rfl
@[simp] theorem State.respond_cmqHead (s : State) (r : HostResult) : (s.respond r).cmqHead = s.cmqHead := rfl
@[simp] theorem State.respond_cmqLen (s : State) (r : HostResult) : (s.respond r).cmqLen = s.cmqLen := rfl
@[simp] theorem State.respond_out (s : State) (r : HostResult) : (s.respond r).out = s.out := rfl
@[simp] theorem State.respond_outCursor (s : State) (r : HostResult) : (s.respond r).outCursor = s.outCursor := rfl
@[simp] theorem State.respond_lcd (s : State) (r : HostResult) : (s.respond r).lcd = s.lcd := rfl
@[simp] theorem State.respond_lcdOff (s : State) (r : HostResult) : (s.respond r).lcdOff = s.lcdOff := rfl
@[simp] theorem State.respond_evq (s : State) (r : HostResult) : (s.respond r).evq = s.evq := rfl
@[simp] theorem State.respond_evCount (s : State) (r : HostResult) : (s.respond r).evCount = s.evCount := rfl
@[simp] theorem State.respond_usNow (s : State) (r : HostResult) : (s.respond r).usNow = s.usNow := rfl
@[simp] theorem State.respond_lineHigh (s : State) (r : HostResult) : (s.respond r).lineHigh = s.lineHigh := rfl
@[simp] theorem State.respond_edgeEnabled (s : State) (r : HostResult) : (s.respond r).edgeEnabled = s.edgeEnabled := rfl
@[simp] theorem State.respond_activity (s : State) (r : HostResult) : (s.respond r).activity = s.activity := rfl
@[simp] theorem State.respond_src (s : State) (r : HostResult) : (s.respond r).src = s.src := rfl
@[simp] theorem State.respond_readIdx (s : State) (r : HostResult) : (s.respond r).readIdx = s.readIdx := rfl
@[simp] theorem State.respond_draining (s : State) (r : HostResult) : (s.respond r).draining = s.draining := rfl
@[simp] theorem State.respond_termSeen (s : State) (r : HostResult) : (s.respond r).termSeen = s.termSeen := rfl
@[simp] theorem State.respond_overrun (s : State) (r : HostResult) : (s.respond r).overrun = s.overrun := rfl
@[simp] theorem State.respond_pulses (s : State) (r : HostResult) : (s.respond r).pulses = s.pulses := rfl
@[simp] theorem State.respond_edges (s : State) (r : HostResult) : (s.respond r).edges = s.edges := rfl
@[simp] theorem State.respond_cmds (s : State) (r : HostResult) : (s.respond r).cmds = s.cmds := rfl
@[simp] theorem State.respond_sched (s : State) (r : HostResult) : (s.respond r).sched = s.sched := rfl
@[simp] theorem State.respond_tx (s : State) (r : HostResult) : (s.respond r).tx = s.tx := rfl
@[simp] theorem State.respond_diags (s : State) (r : HostResult) : (s.respond r).diags = s.diags := rfl
@[simp] theorem State.respond_results (s : State) (r : HostResult) : (s.respond r).results = s.results ++ [r] := rfl
@[simp] theorem State.respond_freeIdx (s : State) (r : HostResult) : (s.respond r).freeIdx = s.freeIdx := rfl

@[simp] theorem State.frameReset_cfg (s : State) : (s.frameReset).cfg = s.cfg := rfl
@[simp] theorem State.frameReset_state (s : State) : (s.frameReset).state = .awaitingMessage := rfl
@[simp] theorem State.frameReset_bitIdx (s : State) : (s.frameReset).bitIdx = 0 := rfl
@[simp] theorem State.frameReset_flagsByte (s : State) : (s.frameReset).flagsByte = s.flagsByte := rfl
@[simp] theorem State.frameReset_tLast (s : State) : (s.frameReset).tLast = s.tLast := rfl
@[simp] theorem State.frameReset_csum (s : State) : (s.frameReset).csum = s.csum := rfl
@[simp] theorem State.frameReset_cursor (s : State) : (s.frameReset).cursor = s.cursor := rfl
@[simp] theorem State.frameReset_isInitialized (s : State) : (s.frameReset).isInitialized = s.isInitialized := rfl
@[simp] theorem State.frameReset_isReadyForText (s : State) : (s.frameReset).isReadyForText = s.isReadyForText := rfl
@[simp] theorem State.frameReset_hasOutboundData (s : State) : (s.frameReset).hasOutboundData = s.hasOutboundData := rfl
@[simp] theorem State.frameReset_checksumError (s : State) : (s.frameReset).checksumError = s.checksumError := rfl
@[simp] theorem State.frameReset_msg (s : State) : (s.frameReset).msg = s.msg := rfl
@[simp] theorem State.frameReset_cmq (s : State) : (s.frameReset).cmq = s.cmq := rfl
@[simp] theorem State.frameReset_cmqHead (s : State) : (s.frameReset).cmqHead = s.cmqHead := rfl
@[simp] theorem State.frameReset_cmqLen (s : State) : (s.frameReset).cmqLen = s.cmqLen := rfl
@[simp] theorem State.frameReset_out (s : State) : (s.frameReset).out = s.out := rfl
@[simp] theorem State.frameReset_outCursor (s : State) : (s.frameReset).outCursor = s.outCursor := rfl
@[simp] theorem State.frameReset_lcd (s : State) : (s.frameReset).lcd = s.lcd := rfl
@[simp] theorem State.frameReset_lcdOff (s : State) : (s.frameReset).lcdOff = s.lcdOff := rfl
@[simp] theorem State.frameReset_evq (s : State) : (s.frameReset).evq = s.evq := rfl
@[simp] theorem State.frameReset_evCount (s : State) : (s.frameReset).evCount = s.evCount := rfl
@[simp] theorem State.frameReset_usNow (s : State) : (s.frameReset).usNow = s.usNow := rfl
@[simp] theorem State.frameReset_lineHigh (s : State) : (s.frameReset).lineHigh = s.lineHigh := rfl
@[simp] theorem State.frameReset_edgeEnabled (s : State) : (s.frameReset).edgeEnabled = s.edgeEnabled := rfl
@[simp] theorem State.frameReset_activity (s : State) : (s.frameReset).activity = s.activity := rfl
@[simp] theorem State.frameReset_src (s : State) : (s.frameReset).src = s.src := rfl
@[simp] theorem State.frameReset_readIdx (s : State) : (s.frameReset).readIdx = s.readIdx := rfl
@[simp] theorem State.frameReset_draining (s : State) : (s.frameReset).draining = s.draining := rfl
@[simp] theorem State.frameReset_termSeen (s : State) : (s.frameReset).termSeen = s.termSeen := rfl
@[simp] theorem State.frameReset_overrun (s : State) : (s.frameReset).overrun = s.overrun := rfl
@[simp] theorem State.frameReset_pulses (s : State) : (s.frameReset).pulses = s.pulses := rfl
@[simp] theorem State.frameReset_edges (s : State) : (s.frameReset).edges = s.edges := rfl
@[simp] theorem State.frameReset_cmds (s : State) : (s.frameReset).cmds = s.cmds := rfl
@[simp] theorem State.frameReset_sched (s : State) : (s.frameReset).sched = s.sched := rfl
@[simp] theorem State.frameReset_tx (s : State) : (s.frameReset).tx = s.tx := rfl
@[simp] theorem State.frameReset_diags (s : State) : (s.frameReset).diags = s.diags := rfl
@[simp] theorem State.frameReset_results (s : State) : (s.frameReset).results = s.results := rfl
@[simp] theorem State.frameReset_freeIdx (s : State) : (s.frameReset).freeIdx = s.freeIdx := rfl

@[simp] theorem State.clearOut_cfg (s : State) : (s.clearOut).cfg = s.cfg := rfl
@[simp] theorem State.clearOut_state (s : State) : (s.clearOut).state = s.state := rfl
@[simp] theorem State.clearOut_bitIdx (s : State) : (s.clearOut).bitIdx = s.bitIdx := rfl
@[simp] theorem State.clearOut_flagsByte (s : State) : (s.clearOut).flagsByte = s.flagsByte := rfl
@[simp] theorem State.clearOut_tLast (s : State) : (s.clearOut).tLast = s.tLast := rfl
@[simp] theorem State.clearOut_csum (s : State) : (s.clearOut).csum = s.csum := rfl
@[simp] theorem State.clearOut_cursor (s : State) : (s.clearOut).cursor = s.cursor := rfl
@[simp] theorem State.clearOut_isInitialized (s : State) : (s.clearOut).isInitialized = s.isInitialized := rfl
@[simp] theorem State.clearOut_isReadyForText (s : State) : (s.clearOut).isReadyForText = s.isReadyForText := rfl
@[simp] theorem State.clearOut_hasOutboundData (s : State) : (s.clearOut).hasOutboundData = s.hasOutboundData := rfl
@[simp] theorem State.clearOut_checksumError (s : State) : (s.clearOut).checksumError = s.checksumError := rfl
@[simp] theorem State.clearOut_msg (s : State) : (s.clearOut).msg = s.msg := rfl
@[simp] theorem State.clearOut_cmq (s : State) : (s.clearOut).cmq = s.cmq := rfl
@[simp] theorem State.clearOut_cmqHead (s : State) : (s.clearOut).cmqHead = s.cmqHead := rfl
@[simp] theorem State.clearOut_cmqLen (s : State) : (s.clearOut).cmqLen = s.cmqLen := rfl
@[simp] theorem State.clearOut_out (s : State) : (s.clearOut).out = zeroBuf := rfl
@[simp] theorem State.clearOut_outCursor (s : State) : (s.clearOut).outCursor = 0 := rfl
@[simp] theorem State.clearOut_lcd (s : State) : (s.clearOut).lcd = s.lcd := rfl
@[simp] theorem State.clearOut_lcdOff (s : State) : (s.clearOut).lcdOff = s.lcdOff := rfl
@[simp] theorem State.clearOut_evq (s : State) : (s.clearOut).evq = s.evq := rfl
@[simp] theorem State.clearOut_evCount (s : State) : (s.clearOut).evCount = s.evCount := rfl
@[simp] theorem State.clearOut_usNow (s : State) : (s.clearOut).usNow = s.usNow := rfl
@[simp] theorem State.clearOut_lineHigh (s : State) : (s.clearOut).lineHigh = s.lineHigh := rfl
@[simp] theorem State.clearOut_edgeEnabled (s : State) : (s.clearOut).edgeEnabled = s.edgeEnabled := rfl
@[simp] theorem State.clearOut_activity (s : State) : (s.clearOut).activity = s.activity := rfl
@[simp] theorem State.clearOut_src (s : State) : (s.clearOut).src = s.src := rfl
@[simp] theorem State.clearOut_readIdx (s : State) : (s.clearOut).readIdx = s.readIdx := rfl
@[simp] theorem State.clearOut_draining (s : State) : (s.clearOut).draining = s.draining := rfl
@[simp] theorem State.clearOut_termSeen (s : State) : (s.clearOut).termSeen = s.termSeen := rfl
@[simp] theorem State.clearOut_overrun (s : State) : (s.clearOut).overrun = s.overrun := rfl
@[simp] theorem State.clearOut_pulses (s : State) : (s.clearOut).pulses = s.pulses := rfl
@[simp] theorem State.clearOut_edges (s : State) : (s.clearOut).edges = s.edges := rfl
@[simp] theorem State.clearOut_cmds (s : State) : (s.clearOut).cmds = s.cmds := rfl
@[simp] theorem State.clearOut_sched (s : State) : (s.clearOut).sched = s.sched := rfl
@[simp] theorem State.clearOut_tx (s : State) : (s.clearOut).tx = s.tx := rfl
@[simp] theorem State.clearOut_diags (s : State) : (s.clearOut).diags = s.diags := rfl
@[simp] theorem State.clearOut_results (s : State) : (s.clearOut).results = s.results := rfl
@[simp] theorem State.clearOut_freeIdx (s : State) : (s.clearOut).freeIdx = s.freeIdx := rfl

@[simp] theorem State.sessionReset_cfg (s : State) : (s.sessionReset).cfg = s.cfg := rfl
@[simp] theorem State.sessionReset_state (s : State) : (s.sessionReset).state = .awaitingMessage := rfl
@[simp] theorem State.sessionReset_bitIdx (s : State) : (s.sessionReset).bitIdx = 0 := rfl
@[simp] theorem State.sessionReset_flagsByte (s : State) : (s.sessionReset).flagsByte = s.flagsByte := rfl
@[simp] theorem State.sessionReset_tLast (s : State) : (s.sessionReset).tLast = s.tLast := rfl
@[simp] theorem State.sessionReset_csum (s : State) : (s.sessionReset).csum = s.csum := rfl
@[simp] theorem State.sessionReset_cursor (s : State) : (s.sessionReset).cursor = s.cursor := rfl
@[simp] theorem State.sessionReset_isInitialized (s : State) : (s.sessionReset).isInitialized = false := rfl
@[simp] theorem State.sessionReset_isReadyForText (s : State) : (s.sessionReset).isReadyForText = false := rfl
@[simp] theorem State.sessionReset_hasOutboundData (s : State) : (s.sessionReset).hasOutboundData = false := rfl
@[simp] theorem State.sessionReset_checksumError (s : State) : (s.sessionReset).checksumError = s.checksumError := rfl
@[simp] theorem State.sessionReset_msg (s : State) : (s.sessionReset).msg = s.msg := rfl
@[simp] theorem State.sessionReset_cmq (s : State) : (s.sessionReset).cmq = s.cmq := rfl
@[simp] theorem State.sessionReset_cmqHead (s : State) : (s.sessionReset).cmqHead = s.cmqHead := rfl
@[simp] theorem State.sessionReset_cmqLen (s : State) : (s.sessionReset).cmqLen = s.cmqLen := rfl
@[simp] theorem State.sessionReset_out (s : State) : (s.sessionReset).out = zeroBuf := rfl
@[simp] theorem State.sessionReset_outCursor (s : State) : (s.sessionReset).outCursor = 0 := rfl
@[simp] theorem State.sessionReset_lcd (s : State) : (s.sessionReset).lcd = s.lcd := rfl
@[simp] theorem State.sessionReset_lcdOff (s : State) : (s.sessionReset).lcdOff = s.lcdOff := rfl
@[simp] theorem State.sessionReset_evq (s : State) : (s.sessionReset).evq = s.evq := rfl
@[simp] theorem State.sessionReset_evCount (s : State) : (s.sessionReset).evCount = s.evCount := rfl
@[simp] theorem State.sessionReset_usNow (s : State) : (s.sessionReset).usNow = s.usNow := rfl
@[simp] theorem State.sessionReset_lineHigh (s : State) : (s.sessionReset).lineHigh = s.lineHigh := rfl
@[simp] theorem State.sessionReset_edgeEnabled (s : State) : (s.sessionReset).edgeEnabled = s.edgeEnabled := rfl
@[simp] theorem State.sessionReset_activity (s : State) : (s.sessionReset).activity = s.activity := rfl
@[simp] theorem State.sessionReset_src (s : State) : (s.sessionReset).src = s.src := rfl
@[simp] theorem State.sessionReset_readIdx (s : State) : (s.sessionReset).readIdx = s.readIdx := rfl
@[simp] theorem State.sessionReset_draining (s : State) : (s.sessionReset).draining = s.draining := rfl
@[simp] theorem State.sessionReset_termSeen (s : State) : (s.sessionReset).termSeen = s.termSeen := rfl
@[simp] theorem State.sessionReset_overrun (s : State) : (s.sessionReset).overrun = s.overrun := rfl
@[simp] theorem State.sessionReset_pulses (s : State) : (s.sessionReset).pulses = s.pulses := rfl
@[simp] theorem State.sessionReset_edges (s : State) : (s.sessionReset).edges = s.edges := rfl
@[simp] theorem State.sessionReset_cmds (s : State) : (s.sessionReset).cmds = s.cmds := rfl
@[simp] theorem State.sessionReset_sched (s : State) : (s.sessionReset).sched = s.sched := rfl
@[simp] theorem State.sessionReset_tx (s : State) : (s.sessionReset).tx = s.tx := rfl
@[simp] theorem State.sessionReset_diags (s : State) : (s.sessionReset).diags = s.diags := rfl
@[simp] theorem State.sessionReset_results (s : State) : (s.sessionReset).results = s.results := rfl
@[simp] theorem State.sessionReset_freeIdx (s : State) : (s.sessionReset).freeIdx = s.freeIdx := rfl

@[simp] theorem State.runInitialization_cfg (s : State) : (s.runInitialization).cfg = s.cfg := rfl
@[simp] theorem State.runInitialization_state (s : State) : (s.runInitialization).state = s.state := rfl
@[simp] theorem State.runInitialization_bitIdx (s : State) : (s.runInitialization).bitIdx = s.bitIdx := rfl
@[simp] theorem State.runInitialization_flagsByte (s : State) : (s.runInitialization).flagsByte = s.flagsByte := rfl
@[simp] theorem State.runInitialization_tLast (s : State) : (s.runInitialization).tLast = s.tLast := rfl
@[simp] theorem State.runInitialization_csum (s : State) : (s.runInitialization).csum = s.csum := rfl
@[simp] theorem State.runInitialization_cursor (s : State) : (s.runInitialization).cursor = s.cursor := rfl
@[simp] theorem State.runInitialization_isInitialized (s : State) : (s.runInitialization).isInitialized = true := rfl
@[simp] theorem State.runInitialization_isReadyForText (s : State) : (s.runInitialization).isReadyForText = true := rfl
@[simp] theorem State.runInitialization_hasOutboundData (s : State) : (s.runInitialization).hasOutboundData = s.hasOutboundData := rfl
@[simp] theorem State.runInitialization_checksumError (s : State) : (s.runInitialization).checksumError = s.checksumError := rfl
@[simp] theorem State.runInitialization_msg (s : State) : (s.runInitialization).msg = s.msg := rfl
@[simp] theorem State.runInitialization_cmq (s : State) : (s.runInitialization).cmq = s.cmq := rfl
@[simp] theorem State.runInitialization_cmqHead (s : State) : (s.runInitialization).cmqHead = s.cmqHead := rfl
@[simp] theorem State.runInitialization_cmqLen (s : State) : (s.runInitialization).cmqLen = s.cmqLen := rfl
@[simp] theorem State.runInitialization_out (s : State) : (s.runInitialization).out = s.out := rfl
@[simp] theorem State.runInitialization_outCursor (s : State) : (s.runInitialization).outCursor = s.outCursor := rfl
@[simp] theorem State.runInitialization_lcd (s : State) : (s.runInitialization).lcd = s.lcd := rfl
@[simp] theorem State.runInitialization_lcdOff (s : State) : (s.runInitialization).lcdOff = s.lcdOff := rfl
@[simp] theorem State.runInitialization_evq (s : State) : (s.runInitialization).evq = s.evq := rfl
@[simp] theorem State.runInitialization_evCount (s : State) : (s.runInitialization).evCount = s.evCount := rfl
@[simp] theorem State.runInitialization_usNow (s : State) : (s.runInitialization).usNow = s.usNow := rfl
@[simp] theorem State.runInitialization_lineHigh (s : State) : (s.runInitialization).lineHigh = s.lineHigh := rfl
@[simp] theorem State.runInitialization_edgeEnabled (s : State) : (s.runInitialization).edgeEnabled = s.edgeEnabled := rfl
@[simp] theorem State.runInitialization_activity (s : State) : (s.runInitialization).activity = s.activity := rfl
@[simp] theorem State.runInitialization_src (s : State) : (s.runInitialization).src = s.src := rfl
@[simp] theorem State.runInitialization_readIdx (s : State) : (s.runInitialization).readIdx = s.readIdx := rfl
@[simp] theorem State.runInitialization_draining (s : State) : (s.runInitialization).draining = s.draining := rfl
@[simp] theorem State.runInitialization_termSeen (s : State) : (s.runInitialization).termSeen = s.termSeen := rfl
@[simp] theorem State.runInitialization_overrun (s : State) : (s.runInitialization).overrun = s.overrun := rfl
@[simp] theorem State.runInitialization_pulses (s : State) : (s.runInitialization).pulses = s.pulses := rfl
@[simp] theorem State.runInitialization_edges (s : State) : (s.runInitialization).edges = s.edges := rfl
@[simp] theorem State.runInitialization_cmds (s : State) : (s.runInitialization).cmds = s.cmds := rfl
@[simp] theorem State.runInitialization_sched (s : State) : (s.runInitialization).sched = s.sched := rfl
@[simp] theorem State.runInitialization_tx (s : State) : (s.runInitialization).tx = s.tx := rfl
@[simp] theorem State.runInitialization_diags (s : State) : (s.runInitialization).diags = s.diags := rfl
@[simp] theorem State.runInitialization_results (s : State) : (s.runInitialization).results = s.results := rfl
@[simp] theorem State.runInitialization_freeIdx (s : State) : (s.runInitialization).freeIdx = s.freeIdx := rfl

@[simp] theorem State.finalizeOutbound_cfg (s : State) : (s.finalizeOutbound).cfg = s.cfg := rfl
@[simp] theorem State.finalizeOutbound_state (s : State) : (s.finalizeOutbound).state = s.state := rfl
@[simp] theorem State.finalizeOutbound_bitIdx (s : State) : (s.finalizeOutbound).bitIdx = s.bitIdx := rfl
@[simp] theorem State.finalizeOutbound_flagsByte (s : State) : (s.finalizeOutbound).flagsByte = s.flagsByte := rfl
@[simp] theorem State.finalizeOutbound_tLast (s : State) : (s.finalizeOutbound).tLast = s.tLast := rfl
@[simp] theorem State.finalizeOutbound_csum (s : State) : (s.finalizeOutbound).csum = s.csum := rfl
@[simp] theorem State.finalizeOutbound_cursor (s : State) : (s.finalizeOutbound).cursor = s.cursor := rfl
@[simp] theorem State.finalizeOutbound_isInitialized (s : State) : (s.finalizeOutbound).isInitialized = s.isInitialized := rfl
@[simp] theorem State.finalizeOutbound_isReadyForText (s : State) : (s.finalizeOutbound).isReadyForText = s.isReadyForText := rfl
@[simp] theorem State.finalizeOutbound_hasOutboundData (s : State) : (s.finalizeOutbound).hasOutboundData = true := rfl
@[simp] theorem State.finalizeOutbound_checksumError (s : State) : (s.finalizeOutbound).checksumError = s.checksumError := rfl
@[simp] theorem State.finalizeOutbound_msg (s : State) : (s.finalizeOutbound).msg = s.msg := rfl
@[simp] theorem State.finalizeOutbound_cmq (s : State) : (s.finalizeOutbound).cmq = s.cmq := rfl
@[simp] theorem State.finalizeOutbound_cmqHead (s : State) : (s.finalizeOutbound).cmqHead = s.cmqHead := rfl
@[simp] theorem State.finalizeOutbound_cmqLen (s : State) : (s.finalizeOutbound).cmqLen = s.cmqLen := rfl
@[simp] theorem State.finalizeOutbound_out (s : State) : (s.finalizeOutbound).out = s.out := rfl
@[simp] theorem State.finalizeOutbound_outCursor (s : State) : (s.finalizeOutbound).outCursor = s.outCursor := rfl
@[simp] theorem State.finalizeOutbound_lcd (s : State) : (s.finalizeOutbound).lcd = s.lcd := rfl
@[simp] theorem State.finalizeOutbound_lcdOff (s : State) : (s.finalizeOutbound).lcdOff = s.lcdOff := rfl
@[simp] theorem State.finalizeOutbound_evq (s : State) : (s.finalizeOutbound).evq = s.evq := rfl
@[simp] theorem State.finalizeOutbound_evCount (s : State) : (s.finalizeOutbound).evCount = s.evCount := rfl
@[simp] theorem State.finalizeOutbound_usNow (s : State) : (s.finalizeOutbound).usNow = s.usNow := rfl
@[simp] theorem State.finalizeOutbound_lineHigh (s : State) : (s.finalizeOutbound).lineHigh = s.lineHigh := rfl
@[simp] theorem State.finalizeOutbound_edgeEnabled (s : State) : (s.finalizeOutbound).edgeEnabled = s.edgeEnabled := rfl
@[simp] theorem State.finalizeOutbound_activity (s : State) : (s.finalizeOutbound).activity = s.activity := rfl
@[simp] theorem State.finalizeOutbound_src (s : State) : (s.finalizeOutbound).src = s.src := rfl
@[simp] theorem State.finalizeOutbound_readIdx (s : State) : (s.finalizeOutbound).readIdx = s.readIdx := rfl
@[simp] theorem State.finalizeOutbound_draining (s : State) : (s.finalizeOutbound).draining = s.draining := rfl
@[simp] theorem State.finalizeOutbound_termSeen (s : State) : (s.finalizeOutbound).termSeen = s.termSeen := rfl
@[simp] theorem State.finalizeOutbound_overrun (s : State) : (s.finalizeOutbound).overrun = s.overrun := rfl
@[simp] theorem State.finalizeOutbound_pulses (s : State) : (s.finalizeOutbound).pulses = s.pulses := rfl
@[simp] theorem State.finalizeOutbound_edges (s : State) : (s.finalizeOutbound).edges = s.edges := rfl
@[simp] theorem State.finalizeOutbound_cmds (s : State) : (s.finalizeOutbound).cmds = s.cmds := rfl
@[simp] theorem State.finalizeOutbound_sched (s : State) : (s.finalizeOutbound).sched = s.sched := rfl
@[simp] theorem State.finalizeOutbound_tx (s : State) : (s.finalizeOutbound).tx = s.tx := rfl
@[simp] theorem State.finalizeOutbound_diags (s : State) : (s.finalizeOutbound).diags = s.diags := rfl
@[simp] theorem State.finalizeOutbound_results (s : State) : (s.finalizeOutbound).results = s.results := rfl
@[simp] theorem State.finalizeOutbound_freeIdx (s : State) : (s.finalizeOutbound).freeIdx = s.freeIdx := rfl

@[simp] theorem State.accumulateBytes_cfg (s : State) (bs : List Byte) : (s.accumulateBytes bs).cfg = s.cfg := rfl
@[simp] theorem State.accumulateBytes_state (s : State) (bs : List Byte) : (s.accumulateBytes bs).state = s.state := rfl
@[simp] theorem State.accumulateBytes_bitIdx (s : State) (bs : List Byte) : (s.accumulateBytes bs).bitIdx = s.bitIdx := rfl
@[simp] theorem State.accumulateBytes_flagsByte (s : State) (bs : List Byte) : (s.accumulateBytes bs).flagsByte = s.flagsByte := rfl
@[simp] theorem State.accumulateBytes_tLast (s : State) (bs : List Byte) : (s.accumulateBytes bs).tLast = s.tLast := rfl
@[simp] theorem State.accumulateBytes_csum (s : State) (bs : List Byte) : (s.accumulateBytes bs).csum = accumulate s.csum bs := rfl
@[simp] theorem State.accumulateBytes_cursor (s : State) (bs : List Byte) : (s.accumulateBytes bs).cursor = s.cursor := rfl
@[simp] theorem State.accumulateBytes_isInitialized (s : State) (bs : List Byte) : (s.accumulateBytes bs).isInitialized = s.isInitialized := rfl
@[simp] theorem State.accumulateBytes_isReadyForText (s : State) (bs : List Byte) : (s.accumulateBytes bs).isReadyForText = s.isReadyForText := rfl
@[simp] theorem State.accumulateBytes_hasOutboundData (s : State) (bs : List Byte) : (s.accumulateBytes bs).hasOutboundData = s.hasOutboundData := rfl
@[simp] theorem State.accumulateBytes_checksumError (s : State) (bs : List Byte) : (s.accumulateBytes bs).checksumError = s.checksumError := rfl
@[simp] theorem State.accumulateBytes_msg (s : State) (bs : List Byte) : (s.accumulateBytes bs).msg = s.msg := rfl
@[simp] theorem State.accumulateBytes_cmq (s : State) (bs : List Byte) : (s.accumulateBytes bs).cmq = s.cmq := rfl
@[simp] theorem State.accumulateBytes_cmqHead (s : State) (bs : List Byte) : (s.accumulateBytes bs).cmqHead = s.cmqHead := rfl
@[simp] theorem State.accumulateBytes_cmqLen (s : State) (bs : List Byte) : (s.accumulateBytes bs).cmqLen = s.cmqLen := rfl
@[simp] theorem State.accumulateBytes_out (s : State) (bs : List Byte) : (s.accumulateBytes bs).out = s.out := rfl
@[simp] theorem State.accumulateBytes_outCursor (s : State) (bs : List Byte) : (s.accumulateBytes bs).outCursor = s.outCursor := rfl
@[simp] theorem State.accumulateBytes_lcd (s : State) (bs : List Byte) : (s.accumulateBytes bs).lcd = s.lcd := rfl
@[simp] theorem State.accumulateBytes_lcdOff (s : State) (bs : List Byte) : (s.accumulateBytes bs).lcdOff = s.lcdOff := rfl
@[simp] theorem State.accumulateBytes_evq (s : State) (bs : List Byte) : (s.accumulateBytes bs).evq = s.evq := rfl
@[simp] theorem State.accumulateBytes_evCount (s : State) (bs : List Byte) : (s.accumulateBytes bs).evCount = s.evCount := rfl
@[simp] theorem State.accumulateBytes_usNow (s : State) (bs : List Byte) : (s.accumulateBytes bs).usNow = s.usNow := rfl
@[simp] theorem State.accumulateBytes_lineHigh (s : State) (bs : List Byte) : (s.accumulateBytes bs).lineHigh = s.lineHigh := rfl
@[simp] theorem State.accumulateBytes_edgeEnabled (s : State) (bs : List Byte) : (s.accumulateBytes bs).edgeEnabled = s.edgeEnabled := rfl
@[simp] theorem State.accumulateBytes_activity (s : State) (bs : List Byte) : (s.accumulateBytes bs).activity = s.activity := rfl
@[simp] theorem State.accumulateBytes_src (s : State) (bs : List Byte) : (s.accumulateBytes bs).src = s.src := rfl
@[simp] theorem State.accumulateBytes_readIdx (s : State) (bs : List Byte) : (s.accumulateBytes bs).readIdx = s.readIdx := rfl
@[simp] theorem State.accumulateBytes_draining (s : State) (bs : List Byte) : (s.accumulateBytes bs).draining = s.draining := rfl
@[simp] theorem State.accumulateBytes_termSeen (s : State) (bs : List Byte) : (s.accumulateBytes bs).termSeen = s.termSeen := rfl
@[simp] theorem State.accumulateBytes_overrun (s : State) (bs : List Byte) : (s.accumulateBytes bs).overrun = s.overrun := rfl
@[simp] theorem State.accumulateBytes_pulses (s : State) (bs : List Byte) : (s.accumulateBytes bs).pulses = s.pulses := rfl
@[simp] theorem State.accumulateBytes_edges (s : State) (bs : List Byte) : (s.accumulateBytes bs).edges = s.edges := rfl
@[simp] theorem State.accumulateBytes_cmds (s : State) (bs : List Byte) : (s.accumulateBytes bs).cmds = s.cmds := rfl
@[simp] theorem State.accumulateBytes_sched (s : State) (bs : List Byte) : (s.accumulateBytes bs).sched = s.sched := rfl
@[simp] theorem State.accumulateBytes_tx (s : State) (bs : List Byte) : (s.accumulateBytes bs).tx = s.tx := rfl
@[simp] theorem State.accumulateBytes_diags (s : State) (bs : List Byte) : (s.accumulateBytes bs).diags = s.diags := rfl
@[simp] theorem State.accumulateBytes_results (s : State) (bs : List Byte) : (s.accumulateBytes bs).results = s.results := rfl
@[simp] theorem State.accumulateBytes_freeIdx (s : State) (bs : List Byte) : (s.accumulateBytes bs).freeIdx = s.freeIdx := rfl

@[simp] theorem State.advance_cfg (s : State) (n : Nat) : (s.advance n).cfg = s.cfg := rfl
@[simp] theorem State.advance_state (s : State) (n : Nat) : (s.advance n).state = s.state := rfl
@[simp] theorem State.advance_bitIdx (s : State) (n : Nat) : (s.advance n).bitIdx = s.bitIdx := rfl
@[simp] theorem State.advance_flagsByte (s : State) (n : Nat) : (s.advance n).flagsByte = s.flagsByte := rfl
@[simp] theorem State.advance_tLast (s : State) (n : Nat) : (s.advance n).tLast = s.tLast := rfl
@[simp] theorem State.advance_csum (s : State) (n : Nat) : (s.advance n).csum = s.csum := rfl
@[simp] theorem State.advance_cursor (s : State) (n : Nat) : (s.advance n).cursor = s.cursor + n := rfl
@[simp] theorem State.advance_isInitialized (s : State) (n : Nat) : (s.advance n).isInitialized = s.isInitialized := rfl
@[simp] theorem State.advance_isReadyForText (s : State) (n : Nat) : (s.advance n).isReadyForText = s.isReadyForText := rfl
@[simp] theorem State.advance_hasOutboundData (s : State) (n : Nat) : (s.advance n).hasOutboundData = s.hasOutboundData := rfl
@[simp] theorem State.advance_checksumError (s : State) (n : Nat) : (s.advance n).checksumError = s.checksumError := rfl
@[simp] theorem State.advance_msg (s : State) (n : Nat) : (s.advance n).msg = s.msg := rfl
@[simp] theorem State.advance_cmq (s : State) (n : Nat) : (s.advance n).cmq = s.cmq := rfl
@[simp] theorem State.advance_cmqHead (s : State) (n : Nat) : (s.advance n).cmqHead = s.cmqHead := rfl
@[simp] theorem State.advance_cmqLen (s : State) (n : Nat) : (s.advance n).cmqLen = s.cmqLen := rfl
@[simp] theorem State.advance_out (s : State) (n : Nat) : (s.advance n).out = s.out := rfl
@[simp] theorem State.advance_outCursor (s : State) (n : Nat) : (s.advance n).outCursor = s.outCursor := rfl
@[simp] theorem State.advance_lcd (s : State) (n : Nat) : (s.advance n).lcd = s.lcd := rfl
@[simp] theorem State.advance_lcdOff (s : State) (n : Nat) : (s.advance n).lcdOff = s.lcdOff := rfl
@[simp] theorem State.advance_evq (s : State) (n : Nat) : (s.advance n).evq = s.evq := rfl
@[simp] theorem State.advance_evCount (s : State) (n : Nat) : (s.advance n).evCount = s.evCount := rfl
@[simp] theorem State.advance_usNow (s : State) (n : Nat) : (s.advance n).usNow = s.usNow := rfl
@[simp] theorem State.advance_lineHigh (s : State) (n : Nat) : (s.advance n).lineHigh = s.lineHigh := rfl
@[simp] theorem State.advance_edgeEnabled (s : State) (n : Nat) : (s.advance n).edgeEnabled = s.edgeEnabled := rfl
@[simp] theorem State.advance_activity (s : State) (n : Nat) : (s.advance n).activity = s.activity := rfl
@[simp] theorem State.advance_src (s : State) (n : Nat) : (s.advance n).src = s.src := rfl
@[simp] theorem State.advance_readIdx (s : State) (n : Nat) : (s.advance n).readIdx = s.readIdx := rfl
@[simp] theorem State.advance_draining (s : State) (n : Nat) : (s.advance n).draining = s.draining := rfl
@[simp] theorem State.advance_termSeen (s : State) (n : Nat) : (s.advance n).termSeen = s.termSeen := rfl
@[simp] theorem State.advance_overrun (s : State) (n : Nat) : (s.advance n).overrun = s.overrun := rfl
@[simp] theorem State.advance_pulses (s : State) (n : Nat) : (s.advance n).pulses = s.pulses := rfl
@[simp] theorem State.advance_edges (s : State) (n : Nat) : (s.advance n).edges = s.edges := rfl
@[simp] theorem State.advance_cmds (s : State) (n : Nat) : (s.advance n).cmds = s.cmds := rfl
@[simp] theorem State.advance_sched (s : State) (n : Nat) : (s.advance n).sched = s.sched := rfl
@[simp] theorem State.advance_tx (s : State) (n : Nat) : (s.advance n).tx = s.tx := rfl
@[simp] theorem State.advance_diags (s : State) (n : Nat) : (s.advance n).diags = s.diags := rfl
@[simp] theorem State.advance_results (s : State) (n : Nat) : (s.advance n).results = s.results := rfl
@[simp] theorem State.advance_freeIdx (s : State) (n : Nat) : (s.advance n).freeIdx = s.freeIdx := rfl

@[simp] theorem State.startDecode_cfg (s : State) (src : ByteSource) : (s.startDecode src).cfg = s.cfg := rfl
@[simp] theorem State.startDecode_state (s : State) (src : ByteSource) : (s.startDecode src).state = s.state := rfl
@[simp] theorem State.startDecode_bitIdx (s : State) (src : ByteSource) : (s.startDecode src).bitIdx = s.bitIdx := rfl
@[simp] theorem State.startDecode_flagsByte (s : State) (src : ByteSource) : (s.startDecode src).flagsByte = s.flagsByte := rfl
@[simp] theorem State.startDecode_tLast (s : State) (src : ByteSource) : (s.startDecode src).tLast = s.tLast := rfl
@[simp] theorem State.startDecode_csum (s : State) (src : ByteSource) : (s.startDecode src).csum = 0 := rfl
@[simp] theorem State.startDecode_cursor (s : State) (src : ByteSource) : (s.startDecode src).cursor = 0 := rfl
@[simp] theorem State.startDecode_isInitialized (s : State) (src : ByteSource) : (s.startDecode src).isInitialized = s.isInitialized := rfl
@[simp] theorem State.startDecode_isReadyForText (s : State) (src : ByteSource) : (s.startDecode src).isReadyForText = s.isReadyForText := rfl
@[simp] theorem State.startDecode_hasOutboundData (s : State) (src : ByteSource) : (s.startDecode src).hasOutboundData = s.hasOutboundData := rfl
@[simp] theorem State.startDecode_checksumError (s : State) (src : ByteSource) : (s.startDecode src).checksumError = s.checksumError := rfl
@[simp] theorem State.startDecode_msg (s : State) (src : ByteSource) : (s.startDecode src).msg = s.msg := rfl
@[simp] theorem State.startDecode_cmq (s : State) (src : ByteSource) : (s.startDecode src).cmq = s.cmq := rfl
@[simp] theorem State.startDecode_cmqHead (s : State) (src : ByteSource) : (s.startDecode src).cmqHead = s.cmqHead := rfl
@[simp] theorem State.startDecode_cmqLen (s : State) (src : ByteSource) : (s.startDecode src).cmqLen = s.cmqLen := rfl
@[simp] theorem State.startDecode_out (s : State) (src : ByteSource) : (s.startDecode src).out = s.out := rfl
@[simp] theorem State.startDecode_outCursor (s : State) (src : ByteSource) : (s.startDecode src).outCursor = s.outCursor := rfl
@[simp] theorem State.startDecode_lcd (s : State) (src : ByteSource) : (s.startDecode src).lcd = s.lcd := rfl
@[simp] theorem State.startDecode_lcdOff (s : State) (src : ByteSource) : (s.startDecode src).lcdOff = s.lcdOff := rfl
@[simp] theorem State.startDecode_evq (s : State) (src : ByteSource) : (s.startDecode src).evq = s.evq := rfl
@[simp] theorem State.startDecode_evCount (s : State) (src : ByteSource) : (s.startDecode src).evCount = 0 := rfl
@[simp] theorem State.startDecode_usNow (s : State) (src : ByteSource) : (s.startDecode src).usNow = s.usNow := rfl
@[simp] theorem State.startDecode_lineHigh (s : State) (src : ByteSource) : (s.startDecode src).lineHigh = s.lineHigh := rfl
@[simp] theorem State.startDecode_edgeEnabled (s : State) (src : ByteSource) : (s.startDecode src).edgeEnabled = s.edgeEnabled := rfl
@[simp] theorem State.startDecode_activity (s : State) (src : ByteSource) : (s.startDecode src).activity = .decoding := rfl
@[simp] theorem State.startDecode_src (s : State) (src : ByteSource) : (s.startDecode src).src = src := rfl
@[simp] theorem State.startDecode_readIdx (s : State) (src : ByteSource) : (s.startDecode src).readIdx = 0 := rfl
@[simp] theorem State.startDecode_draining (s : State) (src : ByteSource) : (s.startDecode src).draining = false := rfl
@[simp] theorem State.startDecode_termSeen (s : State) (src : ByteSource) : (s.startDecode src).termSeen = false := rfl
@[simp] theorem State.startDecode_overrun (s : State) (src : ByteSource) : (s.startDecode src).overrun = false := rfl
@[simp] theorem State.startDecode_pulses (s : State) (src : ByteSource) : (s.startDecode src).pulses = s.pulses := rfl
@[simp] theorem State.startDecode_edges (s : State) (src : ByteSource) : (s.startDecode src).edges = s.edges := rfl
@[simp] theorem State.startDecode_cmds (s : State) (src : ByteSource) : (s.startDecode src).cmds = s.cmds := rfl
@[simp] theorem State.startDecode_sched (s : State) (src : ByteSource) : (s.startDecode src).sched = s.sched := rfl
@[simp] theorem State.startDecode_tx (s : State) (src : ByteSource) : (s.startDecode src).tx = s.tx := rfl
@[simp] theorem State.startDecode_diags (s : State) (src : ByteSource) : (s.startDecode src).diags = s.diags := rfl
@[simp] theorem State.startDecode_results (s : State) (src : ByteSource) : (s.startDecode src).results = s.results := rfl
@[simp] theorem State.startDecode_freeIdx (s : State) (src : ByteSource) : (s.startDecode src).freeIdx = s.freeIdx := rfl

@[simp] theorem State.cmqPop_cfg (s : State) : (s.cmqPop).cfg = s.cfg := rfl
@[simp] theorem State.cmqPop_state (s : State) : (s.cmqPop).state = s.state := rfl
@[simp] theorem State.cmqPop_bitIdx (s : State) : (s.cmqPop).bitIdx = s.bitIdx := rfl
@[simp] theorem State.cmqPop_flagsByte (s : State) : (s.cmqPop).flagsByte = s.flagsByte := rfl
@[simp] theorem State.cmqPop_tLast (s : State) : (s.cmqPop).tLast = s.tLast := rfl
@[simp] theorem State.cmqPop_csum (s : State) : (s.cmqPop).csum = s.csum := rfl
@[simp] theorem State.cmqPop_cursor (s : State) : (s.cmqPop).cursor = s.cursor := rfl
@[simp] theorem State.cmqPop_isInitialized (s : State) : (s.cmqPop).isInitialized = s.isInitialized := rfl
@[simp] theorem State.cmqPop_isReadyForText (s : State) : (s.cmqPop).isReadyForText = s.isReadyForText := rfl
@[simp] theorem State.cmqPop_hasOutboundData (s : State) : (s.cmqPop).hasOutboundData = s.hasOutboundData := rfl
@[simp] theorem State.cmqPop_checksumError (s : State) : (s.cmqPop).checksumError = s.checksumError := rfl
@[simp] theorem State.cmqPop_msg (s : State) : (s.cmqPop).msg = s.msg := rfl
@[simp] theorem State.cmqPop_cmq (s : State) : (s.cmqPop).cmq = s.cmq := rfl
@[simp] theorem State.cmqPop_cmqHead (s : State) : (s.cmqPop).cmqHead = (s.cmqHead + 1) % Config.cmqCap := rfl
@[simp] theorem State.cmqPop_cmqLen (s : State) : (s.cmqPop).cmqLen = s.cmqLen - 1 := rfl
@[simp] theorem State.cmqPop_out (s : State) : (s.cmqPop).out = s.out := rfl
@[simp] theorem State.cmqPop_outCursor (s : State) : (s.cmqPop).outCursor = s.outCursor := rfl
@[simp] theorem State.cmqPop_lcd (s : State) : (s.cmqPop).lcd = s.lcd := rfl
@[simp] theorem State.cmqPop_lcdOff (s : State) : (s.cmqPop).lcdOff = s.lcdOff := rfl
@[simp] theorem State.cmqPop_evq (s : State) : (s.cmqPop).evq = s.evq := rfl
@[simp] theorem State.cmqPop_evCount (s : State) : (s.cmqPop).evCount = s.evCount := rfl
@[simp] theorem State.cmqPop_usNow (s : State) : (s.cmqPop).usNow = s.usNow := rfl
@[simp] theorem State.cmqPop_lineHigh (s : State) : (s.cmqPop).lineHigh = s.lineHigh := rfl
@[simp] theorem State.cmqPop_edgeEnabled (s : State) : (s.cmqPop).edgeEnabled = s.edgeEnabled := rfl
@[simp] theorem State.cmqPop_activity (s : State) : (s.cmqPop).activity = s.activity := rfl
@[simp] theorem State.cmqPop_src (s : State) : (s.cmqPop).src = s.src := rfl
@[simp] theorem State.cmqPop_readIdx (s : State) : (s.cmqPop).readIdx = s.readIdx := rfl
@[simp] theorem State.cmqPop_draining (s : State) : (s.cmqPop).draining = s.draining := rfl
@[simp] theorem State.cmqPop_termSeen (s : State) : (s.cmqPop).termSeen = s.termSeen := rfl
@[simp] theorem State.cmqPop_overrun (s : State) : (s.cmqPop).overrun = s.overrun := rfl
@[simp] theorem State.cmqPop_pulses (s : State) : (s.cmqPop).pulses = s.pulses := rfl
@[simp] theorem State.cmqPop_edges (s : State) : (s.cmqPop).edges = s.edges := rfl
@[simp] theorem State.cmqPop_cmds (s : State) : (s.cmqPop).cmds = s.cmds := rfl
@[simp] theorem State.cmqPop_sched (s : State) : (s.cmqPop).sched = s.sched := rfl
@[simp] theorem State.cmqPop_tx (s : State) : (s.cmqPop).tx = s.tx := rfl
@[simp] theorem State.cmqPop_diags (s : State) : (s.cmqPop).diags = s.diags := rfl
@[simp] theorem State.cmqPop_results (s : State) : (s.cmqPop).results = s.results := rfl
@[simp] theorem State.cmqPop_freeIdx (s : State) : (s.cmqPop).freeIdx = s.freeIdx := rfl

end Sys2Proof.Machine
end

