-- ==== Sys2Proof/Laws/Ops.lean ====
section
/-! SUPPORT. For each shared operation, one lemma that says everything it can do. -/

namespace Sys2Proof.Machine

/-- A push leaves the queue as it was, or puts the event on top. -/
theorem State.pushEvent_cases (s : State) (e : RemoteEvent) :
    (s.pushEvent e = s ∧ (e = .none ∨ 10 ≤ s.evCount)) ∨
      (e ≠ .none ∧ s.evCount < 10 ∧
        s.pushEvent e = { s with evq := s.evq.setIfInBounds s.evCount e, evCount := s.evCount + 1 }) := by
  by_cases h : s.evCount < 10
  · cases e <;> simp [State.pushEvent, Config.evqCap, h]
  · refine .inl ⟨?_, .inr (by omega)⟩
    cases e <;> simp [State.pushEvent, Config.evqCap, h]

/-- A push of `None` does nothing (R215). -/
@[simp] theorem State.pushEvent_none (s : State) : s.pushEvent .none = s := rfl

/-- What a packet without an event does around its handler. -/
theorem State.packetDone_none (s : State) (t : Byte) (p : List Byte) :
    s.packetDone t p .none = { s with csum := accumulate s.csum (t :: p), cursor := s.cursor + (1 + p.length) } := rfl

/-- What a packet does around its handler: the checksum, the cursor, then the push. -/
theorem State.packetDone_eq (s : State) (t : Byte) (p : List Byte) (e : RemoteEvent) :
    s.packetDone t p e =
      State.pushEvent { s with csum := accumulate s.csum (t :: p), cursor := s.cursor + (1 + p.length) } e := rfl

/-- One bit queued: stored at the cursor, or dropped with a diagnostic. -/
theorem State.queueBit_cases (s : State) (b : Bool) :
    (s.outCursor < 88 ∧ s.queueBit b = { s with out := orBit s.out s.outCursor b, outCursor := s.outCursor + 1 }) ∨
      (88 ≤ s.outCursor ∧ s.queueBit b = { s with diags := s.diags ++ [.outboundOverflow] }) := by
  by_cases h : s.outCursor < 88
  · exact .inl ⟨h, by simp [State.queueBit, Config.msgBits, h]⟩
  · exact .inr ⟨by omega, by simp [State.queueBit, Config.msgBits, h, State.raiseError, State.emitDiag]⟩

/-- One byte queued: all its bits from the cursor on, or dropped with a diagnostic. -/
theorem State.queueByte_cases (s : State) (v : Byte) :
    (s.outCursor + 8 ≤ 88 ∧
        s.queueByte v = { s with out := orBits s.out s.outCursor (byteBits v), outCursor := s.outCursor + 8 }) ∨
      (88 < s.outCursor + 8 ∧ s.queueByte v = { s with diags := s.diags ++ [.outboundOverflow] }) := by
  by_cases h : s.outCursor + 8 ≤ 88
  · exact .inl ⟨h, by simp [State.queueByte, Config.msgBits, h]⟩
  · exact .inr ⟨by omega, by simp [State.queueByte, Config.msgBits, h, State.raiseError, State.emitDiag]⟩

/-- Queueing bytes writes the Outbound Buffer, its cursor and the diagnostic channel only. -/
theorem State.queueBytes_frame (vs : List Byte) (s : State) :
    ∃ o c d, s.queueBytes vs = { s with out := o, outCursor := c, diags := d } := by
  induction vs generalizing s with
  | nil => exact ⟨_, _, _, rfl⟩
  | cons v vs ih =>
    obtain ⟨o, c, d, h⟩ := ih (s.queueByte v)
    obtain ⟨-, e⟩ | ⟨-, e⟩ := s.queueByte_cases v
    all_goals
      refine ⟨o, c, d, ?_⟩
      rw [State.queueBytes, h, e]

/-- Staging the capability reply also raises the outbound flag, and nothing else. -/
theorem State.stageCapability_frame (s : State) :
    ∃ o c d, s.stageCapability = { s with out := o, outCursor := c, diags := d, hasOutboundData := true } := by
  obtain ⟨o, c, d, h⟩ := State.queueBytes_frame (capBytes s.cfg ++ [accumulate 0 (capBytes s.cfg)]) s
  exact ⟨o, c, d, by rw [State.stageCapability, h]; rfl⟩

/-- What the append of a chunk does: as many characters as fit below index 63 are stored in order from `lcdOff` on,
nothing else changes, and the flag says whether any did not fit. -/
theorem State.lcdAppend_spec (cs : List Byte) (s : State) (h : s.lcdOff ≤ 63) :
    ∃ l, (State.lcdAppend cs s).1 = { s with lcd := l, lcdOff := s.lcdOff + min cs.length (63 - s.lcdOff) } ∧
      (∀ a, l[a]? =
        if s.lcdOff ≤ a ∧ a < s.lcdOff + min cs.length (63 - s.lcdOff) then cs[a - s.lcdOff]? else s.lcd[a]?) ∧
      ((State.lcdAppend cs s).2 = decide (63 < s.lcdOff + cs.length)) := by
  induction cs generalizing s with
  | nil =>
    refine ⟨s.lcd, by simp [State.lcdAppend], fun a => ?_, by simp [State.lcdAppend]; omega⟩
    rw [if_neg]; simp
  | cons c cs ih =>
    by_cases h2 : s.lcdOff ≤ 62
    · obtain ⟨l, e1, e2, e3⟩ :=
        ih { s with lcd := s.lcd.setIfInBounds s.lcdOff c, lcdOff := s.lcdOff + 1 } (by simp; omega)
      simp only [State.lcdAppend, Config.lcdLastChar, h2, if_true]
      refine ⟨l, ?_, fun a => ?_, ?_⟩
      · rw [e1]
        simp
        omega
      · rw [e2]
        simp only [List.length_cons]
        by_cases ha : a = s.lcdOff
        · subst ha
          rw [if_neg (by omega), if_pos (by omega)]
          simp [show s.lcdOff < 64 by omega]
        · by_cases hb : s.lcdOff + 1 ≤ a ∧ a < s.lcdOff + 1 + min cs.length (63 - (s.lcdOff + 1))
          · rw [if_pos hb, if_pos (by omega)]
            obtain ⟨m, rfl⟩ : ∃ m, a = s.lcdOff + 1 + m := ⟨a - (s.lcdOff + 1), by omega⟩
            have e1 : s.lcdOff + 1 + m - (s.lcdOff + 1) = m := by omega
            have e2 : s.lcdOff + 1 + m - s.lcdOff = m + 1 := by omega
            simp [e1, e2]
          · rw [if_neg hb, if_neg (by omega)]
            simp [Ne.symm ha]
      · rw [e3]
        apply decide_eq_decide.mpr
        simp only [List.length_cons]
        omega
    · have h63 : s.lcdOff = 63 := by omega
      obtain ⟨l, e1, e2, -⟩ := ih s h
      simp only [State.lcdAppend, Config.lcdLastChar, h2, if_false]
      refine ⟨l, ?_, fun a => ?_, ?_⟩
      · rw [e1]; simp [h63]
      · rw [e2, if_neg (by omega), if_neg (by omega)]
      · simp [h63]

/-- One byte taken from the source: the source's own fields and the overrun report change, nothing else. -/
theorem State.takeByte_cases {s t : State} {b : Byte} (h : s.takeByte = some (b, t)) :
    (s.src = .bus ∧ ∃ ps, readBusByte s.cfg.ranges s.pulses = some (b, ps) ∧
        t = { s with pulses := ps, readIdx := s.readIdx + 1 }) ∨
      (∃ m, s.src = .captured m ∧ m[s.readIdx]? = some b ∧ t = { s with readIdx := s.readIdx + 1 }) ∨
      (∃ m, s.src = .captured m ∧ 11 ≤ s.readIdx ∧ b = Config.freeByte s.freeIdx ∧
        t = { s with
              readIdx := s.readIdx + 1, freeIdx := s.freeIdx + 1, overrun := true,
              diags := if s.overrun then s.diags else s.diags ++ [.bufferOverrun] }) := by
  unfold State.takeByte at h
  split at h
  · rename_i hs
    split at h
    · cases h
    · rename_i b' ps hb
      cases h
      exact .inl ⟨hs, ps, hb, rfl⟩
  · rename_i m hs
    split at h
    · rename_i b' hb
      cases h
      exact .inr (.inl ⟨m, hs, hb, rfl⟩)
    · rename_i hb
      cases h
      refine .inr (.inr ⟨m, hs, ?_, rfl, ?_⟩)
      · simpa using hb
      · by_cases ho : s.overrun
        · simp [State.raiseError, ho]
        · simp [State.raiseError, ho, State.emitDiag]

/-- Bytes taken in order change the pulses left, the read index, the free-value count, the overrun report and nothing
else; there are as many as asked for. -/
theorem State.takeBytes_frame (n : Nat) {s t : State} {bs : List Byte} (h : s.takeBytes n = some (bs, t)) :
    bs.length = n ∧ ∃ ps fi ov ds,
      t = { s with pulses := ps, readIdx := s.readIdx + n, freeIdx := fi, overrun := ov, diags := ds } := by
  induction n generalizing s bs with
  | zero => cases h; exact ⟨rfl, _, _, _, _, rfl⟩
  | succ n ih =>
    rw [State.takeBytes] at h
    split at h
    · cases h
    · rename_i b s1 hb
      split at h
      · cases h
      · rename_i bs' s2 hbs
        cases h
        obtain ⟨hl, ps, fi, ov, ds, rfl⟩ := ih hbs
        refine ⟨by simp [hl], ?_⟩
        obtain ⟨-, ps', -, rfl⟩ | ⟨m, -, -, rfl⟩ | ⟨m, -, -, -, rfl⟩ := State.takeByte_cases hb
        all_goals exact ⟨ps, fi, ov, ds, by simp [Nat.add_assoc, Nat.add_comm 1 n]⟩

/-- A fetch takes the type byte and exactly the payload bytes its type fixes; of the state it changes the byte source
and the overrun report only. -/
theorem State.fetchPacket_frame {s t : State} {bs : List Byte} (h : s.fetchPacket = some (bs, t)) :
    ∃ ty p, bs = ty :: p ∧ p.length = payloadBytes ty ∧ ∃ ps fi ov ds,
      t = { s with pulses := ps, readIdx := s.readIdx + (p.length + 1), freeIdx := fi, overrun := ov, diags := ds } := by
  unfold State.fetchPacket at h
  split at h
  · cases h
  · rename_i b s1 hb
    split at h
    · cases h
    · rename_i p s2 hp
      cases h
      have h2 : State.takeBytes (payloadBytes b + 1) s = some (b :: p, t) := by
        rw [State.takeBytes, hb]; simp [hp]
      obtain ⟨hl, ps, fi, ov, ds, e⟩ := State.takeBytes_frame _ h2
      have hl' : p.length = payloadBytes b := by simpa using hl
      exact ⟨b, p, rfl, hl', ps, fi, ov, ds, by rw [e, hl']⟩

/-- An enqueue stores the captured message at the tail, or drops it with a diagnostic (R263). -/
theorem State.enqueueCompleted_cases (s : State) :
    (s.cmqLen < 10 ∧ s.enqueueCompleted =
        { s with cmq := s.cmq.setIfInBounds ((s.cmqHead + s.cmqLen) % 10) s.msg, cmqLen := s.cmqLen + 1 }) ∨
      (10 ≤ s.cmqLen ∧ s.enqueueCompleted = { s with diags := s.diags ++ [.queueOverflow] }) := by
  by_cases h : s.cmqLen < 10
  · exact .inl ⟨h, by simp [State.enqueueCompleted, Config.cmqCap, h]⟩
  · exact .inr ⟨by omega, by simp [State.enqueueCompleted, Config.cmqCap, h, State.raiseError, State.emitDiag]⟩

/-- The polled drain writes bits, then the Outbound Buffer is empty and the flag is low (R296). -/
theorem State.drainOutbound_frame (s : State) :
    ∃ bits, s.drainOutbound =
      { s with tx := s.tx ++ bits, out := zeroBuf, outCursor := 0, hasOutboundData := false } := ⟨_, rfl⟩

/-- Entry to each error class (R330, R344), as a record update. -/
theorem State.raiseError_timing_edge (s : State) (h : s.cfg.variant = .edgeDriven) :
    s.raiseError .timingError = s.frameReset := by simp [State.raiseError, h]

theorem State.raiseError_timing_polled (s : State) (h : s.cfg.variant = .polled) :
    s.raiseError .timingError = { s with activity := .idle } := by simp [State.raiseError, h]

theorem State.raiseError_reset_edge (s : State) (h : s.cfg.variant = .edgeDriven) :
    s.raiseError .protocolReset = s.sessionReset := by simp [State.raiseError, h]

theorem State.raiseError_reset_polled (s : State) (h : s.cfg.variant = .polled) :
    s.raiseError .protocolReset = { s.sessionReset with activity := .idle } := by simp [State.raiseError, h]

theorem State.raiseError_unknownType (s : State) (t : Byte) :
    s.raiseError (.unknownType t) = { s with diags := s.diags ++ [.unknownType t], draining := true } := rfl

theorem State.raiseError_capBadPayload (s : State) (v : Byte) :
    s.raiseError (.capBadPayload v) = { s with diags := s.diags ++ [.capBadPayload v] } := rfl

/-- A step at a main turn, of the schedule or by default, is the main turn of what the main context sees. -/
theorem State.step_of_mainSees {r s : State} (h : r.mainSees s) : step r = s.mainTurn := by
  obtain ⟨hr, work, rfl⟩ | ⟨ts, hr, rfl⟩ := h
  · have hd : s.defaultTurn = .main := by
      unfold State.defaultTurn
      split
      · simp_all
      · rfl
    simp [step, State.nextTurn, hr, hd, State.turn]
  · simp [step, State.nextTurn, hr, State.turn]

/-- A step at an interrupt turn, of the schedule or by default, is the interrupt turn of what the interrupt context sees. -/
theorem State.step_of_interruptSees {r s : State} (h : r.interruptSees s) : step r = .next s.interruptTurn := by
  obtain ⟨hr, ha, hc, rfl⟩ | ⟨ts, hr, rfl⟩ := h
  · simp [step, State.nextTurn, hr, State.defaultTurn, ha, hc, State.turn]
  · simp [step, State.nextTurn, hr, State.turn]

/-- An interrupt turn is the next edge, or nothing. -/
theorem State.interruptTurn_cases (s : State) :
    (∃ dt es, s.cfg.variant = .edgeDriven ∧ s.edgeEnabled = true ∧ s.edges = dt :: es ∧
        s.interruptTurn = State.lineEdge dt { s with edges := es }) ∨
      ((s.cfg.variant = .polled ∨ s.edgeEnabled = false ∨ s.edges = []) ∧ s.interruptTurn = s) := by
  unfold State.interruptTurn
  split
  · exact .inl ⟨_, _, ‹_›, ‹_›, ‹_›, rfl⟩
  · refine .inr ⟨?_, rfl⟩
    cases hv : s.cfg.variant <;> cases he : s.edgeEnabled <;> cases hs : s.edges <;> simp_all

end Sys2Proof.Machine
end

