-- ==== Sys2Proof/Laws/PerInstr.lean ====
section
/-! SUPPORT. Statements about every instruction as syntax, one lemma per constructor. -/

namespace Sys2Proof.Laws

/-- The encoding is the type byte and as many payload bytes as the dispatch table gives it (R105, R112, R190). -/
def EncodeShape.Statement (i : Instr) : Prop :=
  i.wellFormed = true → ∃ t payload, encode i = t :: payload ∧ payload.length = payloadBytes t

theorem EncodeShape.term : EncodeShape.Statement .term := fun _ => ⟨_, _, rfl, by decide⟩
theorem EncodeShape.capreq (v : Byte) : EncodeShape.Statement (.capreq v) := fun _ => ⟨_, _, rfl, by simp [payloadBytes, dispatchTable]⟩
theorem EncodeShape.lcdclr : EncodeShape.Statement .lcdclr := fun _ => ⟨_, _, rfl, by decide⟩
theorem EncodeShape.vol (v : Byte) : EncodeShape.Statement (.vol v) := fun _ => ⟨_, _, rfl, by simp [payloadBytes, dispatchTable]⟩
theorem EncodeShape.mode (v : Byte) : EncodeShape.Statement (.mode v) := fun _ => ⟨_, _, rfl, by simp [payloadBytes, dispatchTable]⟩
theorem EncodeShape.record (v : Byte) : EncodeShape.Statement (.record v) := fun _ => ⟨_, _, rfl, by simp [payloadBytes, dispatchTable]⟩
theorem EncodeShape.batt (v : Byte) : EncodeShape.Statement (.batt v) := fun _ => ⟨_, _, rfl, by simp [payloadBytes, dispatchTable]⟩
theorem EncodeShape.eqind (v : Byte) : EncodeShape.Statement (.eqind v) := fun _ => ⟨_, _, rfl, by simp [payloadBytes, dispatchTable]⟩
theorem EncodeShape.alarm (v : Byte) : EncodeShape.Statement (.alarm v) := fun _ => ⟨_, _, rfl, by simp [payloadBytes, dispatchTable]⟩
theorem EncodeShape.track (p0 p1 p2 p3 : Byte) : EncodeShape.Statement (.track p0 p1 p2 p3) :=
  fun _ => ⟨_, _, rfl, by simp [payloadBytes, dispatchTable]⟩
theorem EncodeShape.lcd (seg unk c0 c1 c2 c3 c4 c5 c6 : Byte) :
    EncodeShape.Statement (.lcd seg unk c0 c1 c2 c3 c4 c5 c6) :=
  fun _ => ⟨_, _, rfl, by simp [payloadBytes, dispatchTable]⟩
theorem EncodeShape.unknown (t : Byte) : EncodeShape.Statement (.unknown t) := by
  intro h
  refine ⟨t, [], rfl, ?_⟩
  simp [Instr.wellFormed, knownTypes] at h
  simp [payloadBytes, dispatchTable, h]

end Sys2Proof.Laws
end

