-- ==== Sys2Proof/Tests/Slice0.lean ====
section
/-! SUPPORT. The model's own tests, each about one step or one operation on a small state, with the vector of
spec/95_test_vectors.md it is taken from; and for each statement with hypotheses a witness that meets them. -/

open Sys2Proof Sys2Proof.Machine

namespace Sys2Proof.Tests

/-! ### Small states -/

/-- The test values of spec/95_test_vectors.md, section 0. -/
def cfgOf (v : Variant) : Params where
  variant := v
  ranges := Config.defaultRanges
  noiseMaxUs := 50000
  capDescriptor := #v[1, 2, 3, 4, 5, 6, 7, 8, 9]
  waveform := ⟨150, 50⟩

/-- Power-on state of a variant. -/
def fresh (v : Variant) : State := { State.reset with cfg := cfgOf v, edgeEnabled := decide (v = .edgeDriven) }

/-- "Initialised idle state". -/
def idle (v : Variant) : State := { fresh v with isInitialized := true, isReadyForText := true }

/-- A message of the given first bytes, zeros after them. -/
abbrev msgOf (bs : List Byte) : Vector Byte 11 := messageOfBytes bs

/-- The decoder of the edge-driven variant at the first byte of a captured message. -/
def reading (bs : List Byte) : State := (idle .edgeDriven).startDecode (.captured (msgOf bs))

/-- The cells of a byte: 150 for bit 0, 50 for bit 1. -/
def cellsOf (v : Byte) : List Nat := (byteBits v).map fun b => if b then 50 else 150

/-- The outcome is a next state that meets `p`. -/
def goesOn (o : Host.Outcome State Fault Refusal) (p : State → Bool) : Bool :=
  match o with
  | .next t => p t
  | _ => false

/-- The outcome is the fault `f`. -/
def faultsWith (f : Fault) (o : Host.Outcome State Fault Refusal) : Bool :=
  match o with
  | .fault g => decide (g = f)
  | _ => false

/-- The outcome is the refusal `r`. -/
def refusesWith (r : Refusal) (o : Host.Outcome State Fault Refusal) : Bool :=
  match o with
  | .refused q => decide (q = r)
  | _ => false

/-! ### WellFormed: the one check, on each of the eleven ill-formed terms -/

theorem test_wellFormed_refuses :
    (Instr.unknown 0x00).wellFormed = false ∧ (Instr.unknown 0x01).wellFormed = false ∧
      (Instr.unknown 0x08).wellFormed = false ∧ (Instr.unknown 0x40).wellFormed = false ∧
      (Instr.unknown 0x41).wellFormed = false ∧ (Instr.unknown 0x42).wellFormed = false ∧
      (Instr.unknown 0x43).wellFormed = false ∧ (Instr.unknown 0x46).wellFormed = false ∧
      (Instr.unknown 0x47).wellFormed = false ∧ (Instr.unknown 0xA0).wellFormed = false ∧
      (Instr.unknown 0xC8).wellFormed = false := by decide

theorem test_wellFormed_accepts : (Instr.unknown 0xFE).wellFormed = true ∧ (Instr.vol 0x40).wellFormed = true := by decide

/-! ### Decoding: one word of every row, written out from R105 and R112 (the first byte in bits 7..0) -/

theorem test_decode_term : decodeTableWord 8 0x00 = some (.term) := by decide
theorem test_decode_capreq : decodeTableWord 16 0b00000001_00000001 = some (.capreq 0x01) := by decide
theorem test_decode_lcdclr : decodeTableWord 8 0b00001000 = some (.lcdclr) := by decide
theorem test_decode_vol : decodeTableWord 16 0b00001010_01000000 = some (.vol 0x0A) := by decide
theorem test_decode_mode : decodeTableWord 16 0b00000010_01000001 = some (.mode 0x02) := by decide
theorem test_decode_record : decodeTableWord 16 0b00000001_01000010 = some (.record 0x01) := by decide
theorem test_decode_batt : decodeTableWord 16 0b00000100_01000011 = some (.batt 0x04) := by decide
theorem test_decode_eqind : decodeTableWord 16 0b10000000_01000110 = some (.eqind 0x80) := by decide
theorem test_decode_alarm : decodeTableWord 16 0b11111111_01000111 = some (.alarm 0xFF) := by decide
theorem test_decode_track : decodeTableWord 40 0b00000001_00000111_00000101_00000011_10100000 = some (.track 0x03 0x05 0x07 0x01) := by decide
theorem test_decode_lcd : decodeTableWord 80 0b11111111_00100000_00001001_00001000_00000111_01000010_01000001_01110111_00000001_11001000 = some (.lcd 0x01 0x77 0x41 0x42 0x07 0x08 0x09 0x20 0xFF) := by decide
theorem test_decode_unknown : decodeTableWord 8 0b11111110 = some (.unknown 0xFE) := by decide

/-- Bytes too few for their format are rejected by name (R105). -/
theorem test_decode_rejects : decode [0xA0, 0x01, 0x02] = .rejected (.truncated 0xA0) ∧ decode [] = .rejected .noTypeByte := by
  decide

/-- The fetched word is the instruction that the next step runs. -/
theorem test_withFetchWord : goesOn (step (State.reset.withFetchWord 16 0x0A40)) (fun t =>
    decide (t.evCount = 1 ∧ t.evq[0] = .volumeLevel 0x0A ∧ t.cursor = 2)) = true := by decide

/-! ### Packets -/

/-- V4.1. -/
theorem test_term : goesOn (exec .term (idle .polled)) (fun t =>
    decide (t.termSeen = true ∧ t.cursor = 0 ∧ t.csum = 0x00 ∧ t.evCount = 0)) = true := by decide

/-- V4.2. -/
theorem test_capreq : goesOn (exec (.capreq 0x01) (idle .polled)) (fun t =>
    decide (t.out = #v[1, 2, 3, 4, 5, 6, 7, 8, 9, 1, 0] ∧ t.outCursor = 80 ∧ t.hasOutboundData = true ∧
      t.csum = 0x00 ∧ t.evCount = 0)) = true := by
  decide +kernel

/-- V4.3. -/
theorem test_capreq_bad : goesOn (exec (.capreq 0x02) (idle .polled)) (fun t =>
    decide (t.diags = [.capBadPayload 0x02] ∧ t.outCursor = 0 ∧ t.hasOutboundData = false ∧ t.csum = 0x03)) = true := by
  decide

/-- V4.5. -/
theorem test_lcdclr : goesOn (exec .lcdclr { idle .polled with lcdOff := 14 }) (fun t =>
    decide (t.lcdOff = 0 ∧ t.csum = 0x08 ∧ t.cursor = 1)) = true := by decide

/-- V4.7. -/
theorem test_vol_ff : goesOn (exec (.vol 0xFF) (idle .polled)) (fun t =>
    decide (t.evq[0] = .volumeLevel 30 ∧ t.csum = 0xBF)) = true := by decide

/-- V4.11. -/
theorem test_vol_fe : goesOn (exec (.vol 0xFE) (idle .polled)) (fun t =>
    decide (t.evq[0] = .volumeLevel 254 ∧ t.csum = 0xBE)) = true := by decide

/-- V4.12. -/
theorem test_mode : goesOn (exec (.mode 0x02) (idle .polled)) (fun t =>
    decide (t.evq[0] = .playbackMode 0x02 ∧ t.csum = 0x43)) = true := by decide

/-- V4.13. -/
theorem test_record : goesOn (exec (.record 0x01) (idle .polled)) (fun t =>
    decide (t.evq[0] = .recordIndicator 0x01 ∧ t.csum = 0x43)) = true := by decide

/-- V4.14. -/
theorem test_batt : goesOn (exec (.batt 0x04) (idle .polled)) (fun t =>
    decide (t.evq[0] = .batteryLevel 0x04 ∧ t.csum = 0x47)) = true := by decide

/-- V4.15. -/
theorem test_eqind : goesOn (exec (.eqind 0x00) (idle .polled)) (fun t =>
    decide (t.evq[0] = .eqIndicator 0x00 ∧ t.csum = 0x46)) = true := by decide

/-- V4.16. -/
theorem test_alarm : goesOn (exec (.alarm 0xFF) (idle .polled)) (fun t =>
    decide (t.evq[0] = .alarmIndicator 0xFF ∧ t.csum = 0xB8)) = true := by decide

/-- V4.17, with `TRACK_DECODE` left open. -/
theorem test_track : ∃ t, exec (.track 0x00 0x05 0x00 0x01) (idle .polled) = .next t ∧
    t.evq[0] = .trackNumber (Config.trackDecode 0x00 0x05 0x00 0x01).1 (Config.trackDecode 0x00 0x05 0x00 0x01).2
      #v[0x00, 0x05, 0x00, 0x01] ∧ t.csum = 0xA4 ∧ t.cursor = 5 := ⟨_, rfl, rfl, rfl, rfl⟩

/-- V4.20. -/
theorem test_lcd_final : goesOn (exec (.lcd 0x01 0x00 0x14 0x41 0x42 0xFF 0xFF 0xFF 0xFF) (idle .polled)) (fun t =>
    decide (t.evq[0] = .lcdText .trackTitle [0x41, 0x42] ∧ t.lcdOff = 0 ∧ t.csum = 0xDE)) = true := by decide

/-- V4.35. -/
theorem test_lcd_full : goesOn (exec (.lcd 0x02 0x00 0x67 0x68 0xFF 0x00 0x00 0x00 0x00) { idle .polled with lcdOff := 62 })
    (fun t => decide (t.lcdOff = 63 ∧ t.lcd[62] = 0x67 ∧ t.lcd[63] = 0x00 ∧ t.diags = [.lcdOverflow] ∧ t.evCount = 0)) =
      true := by decide

/-- V4.19. -/
theorem test_unknown : goesOn (exec (.unknown 0xFE) (idle .polled)) (fun t =>
    decide (t.diags = [.unknownType 0xFE] ∧ t.draining = true ∧ t.cursor = 1 ∧ t.csum = 0xFE)) = true := by decide

/-! ### Classifier, codec, framers, host -/

/-- R93, R131 and V3.4: both edges of the data-bit-low range. -/
theorem test_dataBit : [99, 100, 249, 250, 1200].map (dataBit Config.defaultRanges) = [true, false, false, true, true] := by
  decide

/-- V3.12. -/
theorem test_readByte_cells :
    readBusByte Config.defaultRanges [99, 100, 249, 250, 0, 1200, 40000, 175] = some (0x79, []) := by decide

/-- V3.18. -/
theorem test_writeByte :
    ((idle .polled).writeByte 0x84).tx = [false, false, true, false, false, false, false, true] := by decide

/-- V7.4: a session reset keeps the decoder's side. -/
theorem test_session_reset :
    (fun t : State => decide (t.isInitialized = false ∧ t.hasOutboundData = false ∧ t.out = zeroBuf ∧ t.outCursor = 0 ∧
        t.lcdOff = 7 ∧ t.checksumError = true))
      (State.onPulse 40000 { idle .edgeDriven with
        out := zeroBuf.set 0 0x55, outCursor := 8, hasOutboundData := true, lcdOff := 7, checksumError := true }) =
      true := by decide

/-- V7.7: 50000 is not above the bound, and the sampled header bit is written. -/
theorem test_noise_bound :
    (fun t : State => decide (t.bitIdx = 4 ∧ t.tx = [false]))
      (State.onPulse 50000 { idle .edgeDriven with state := .inRemoteHeader, bitIdx := 3 }) = true := by decide

/-- V7.20: cede bus with a message staged. -/
theorem test_cede :
    (fun t : State => decide (t.state = .remoteSending ∧ t.flagsByte = 0x10))
      (State.onPulse 150 { idle .edgeDriven with
        state := .inPlayerHeader, bitIdx := 7, flagsByte := 0x10, hasOutboundData := true, outCursor := 8 }) = true := by
  decide

/-- V8.3: a byte that straddles two bytes of `OUT`. -/
theorem test_queue_straddle :
    (fun t : State => decide (t.out[0] = 0xFD ∧ t.out[1] = 0x07 ∧ t.outCursor = 11))
      ({ idle .polled with out := zeroBuf.set 0 0x05, outCursor := 3 }.queueByte 0xFF) = true := by decide

/-- V9.2: the newest event first. -/
theorem test_nextEvent : goesOn (step { idle .polled with
      evq := ((Vector.replicate 10 RemoteEvent.none).set 0 (.volumeLevel 10)).set 1 (.playbackMode 0x02), evCount := 2,
      cmds := [.nextEvent] }) (fun t =>
    decide (t.results = [.event (.playbackMode 0x02)] ∧ t.evCount = 1)) = true := by decide

/-- R310: a command of the other variant is turned away. -/
theorem test_command_of_other_variant :
    refusesWith (.commandNotInVariant .decodeNext) (step { idle .polled with cmds := [.decodeNext] }) = true := by decide

/-- R382: a polled call without pulses. -/
theorem test_stuck : faultsWith .stuckNoPulse (step { idle .polled with activity := .awaitSync }) = true := by decide

/-! ### Witnesses: for each statement with hypotheses, concrete inputs that meet them -/

/-- The two turns at which the main context meets a state with no schedule left: the default turn, and one that the schedule
holds with an interrupt turn after it. -/
def BothTurns (s : State) : Prop :=
  s.mainSees s ∧ State.mainSees { s with sched := [.main, .interrupt] } { s with sched := [.interrupt] }

theorem bothTurns_of_empty (s : State) (h : s.sched = []) (work : s.activity ≠ .idle ∨ s.cmds ≠ []) : BothTurns s :=
  ⟨.inl ⟨h, work, rfl⟩, .inr ⟨_, rfl, rfl⟩⟩

/-- A decoder in the middle of a message, while another is captured: it meets the machine's invariant. -/
def midDecode : State :=
  { reading [0x40, 0x0A, 0x40, 0x0B, 0x00, 0x00] with
    readIdx := 2, cursor := 2, csum := 0x4A, evCount := 1, evq := (Vector.replicate 10 RemoteEvent.none).set 0 (.volumeLevel 10),
    out := zeroBuf.set 0 0x5A, outCursor := 7, lcdOff := 63, cmqHead := 9, cmqLen := 10, state := .playerSending,
    bitIdx := 87, msg := zeroBuf.set 0 0xC8, lineHigh := false, usNow := 500, tLast := 400, hasOutboundData := true }

theorem witness_DecodeInvertsEncode :
    (Instr.unknown 0xFF).wellFormed = true ∧ (Instr.lcd 0x01 0 0 0 0 0 0 0 0xFF).wellFormed = true := by decide

theorem witness_EncodeInvertsDecode :
    decode [0xA0, 0xFF, 0x00, 0x01, 0x02, 0x40] = .ok (.track 0xFF 0x00 0x01 0x02) [0x40] := by decide

/-- For the statements about VOL, the indicators and TRACK: nine events queued, the boundary. -/
theorem witness_room_for_an_event : ({ idle .polled with evCount := 9 } : State).evCount < 10 := by decide

theorem witness_FullEventQueue : 10 ≤ ({ idle .polled with evCount := 10 } : State).evCount := by decide

theorem witness_UnknownType : knownTypes.contains 0x02 = false ∧ knownTypes.contains 0xFF = false := by decide

theorem witness_CapabilityRequest :
    (idle .polled).out = Vector.replicate 11 0 ∧ (idle .polled).outCursor = 0 ∧ (0x00 : Byte) ≠ 0x01 := by decide

/-- Both LCD statements at both ends of the offset. -/
theorem witness_lcd_offsets : (0x02 : Byte) ≠ 0x01 ∧ (idle .polled).lcdOff ≤ 63 ∧
    ({ idle .polled with lcdOff := 63 } : State).lcdOff ≤ 63 := by decide

theorem witness_PacketHandlersKeep : ∃ t, exec (.vol 0x0A) (idle .polled) = .next t ∧
    (∀ v, Instr.vol 0x0A ≠ .capreq v) ∧ Instr.vol 0x0A ≠ .lcdclr ∧
    ∀ seg unk c0 c1 c2 c3 c4 c5 c6, Instr.vol 0x0A ≠ .lcd seg unk c0 c1 c2 c3 c4 c5 c6 :=
  ⟨_, rfl, by simp, by decide, by simp⟩

/-- The decoder's phase: in a decode, no terminator met, budget left, not draining. -/
theorem witness_decode_phase : BothTurns midDecode ∧ midDecode.activity = .decoding ∧ midDecode.termSeen = false ∧
    midDecode.cursor < 10 ∧ midDecode.draining = false := ⟨bothTurns_of_empty _ rfl (by decide), by decide⟩

theorem witness_StepRunsTheDecodedPacket : ∃ s1, midDecode.fetchPacket = some ([0x40, 0x0B], s1) ∧
    decode [0x40, 0x0B] = .ok (.vol 0x0B) [] := ⟨_, rfl, by decide⟩

theorem witness_CapturedPacket : midDecode.src = .captured (msgOf [0x40, 0x0A, 0x40, 0x0B, 0x00, 0x00]) ∧
    (Instr.vol 0x0B).wellFormed = true ∧
    ∀ k, k < (encode (.vol 0x0B)).length →
      (msgOf [0x40, 0x0A, 0x40, 0x0B, 0x00, 0x00])[midDecode.readIdx + k]? = (encode (.vol 0x0B))[k]? := by decide

/-- The polled decoder at the last byte of the budget, with the cells of one packet and more to come. -/
def busDecode : State :=
  { (idle .polled).startDecode .bus with
    cursor := 9, readIdx := 9, pulses := cellsOf 0x40 ++ cellsOf 0xFF ++ cellsOf 0x4F }

theorem witness_BusPacket : BothTurns busDecode ∧ busDecode.activity = .decoding ∧ busDecode.termSeen = false ∧
    busDecode.cursor < 10 ∧ busDecode.draining = false ∧ busDecode.src = .bus ∧ (Instr.vol 0xFF).wellFormed = true ∧
    busDecode.pulses = (cellsOf 0x40 ++ cellsOf 0xFF) ++ cellsOf 0x4F ∧
    (cellsOf 0x40 ++ cellsOf 0xFF).map (dataBit busDecode.cfg.ranges) = (encode (.vol 0xFF)).flatMap byteBits :=
  ⟨bothTurns_of_empty _ rfl (by decide), by decide +kernel⟩

/-- Draining at the last byte of the budget. -/
def draining9 : State := { midDecode with draining := true, cursor := 9, readIdx := 9 }

theorem witness_DrainedByte : BothTurns draining9 ∧ draining9.activity = .decoding ∧ draining9.termSeen = false ∧
    draining9.cursor < 10 ∧ draining9.draining = true ∧ ∃ s1, draining9.takeByte = some (0x00, s1) :=
  ⟨bothTurns_of_empty _ rfl (by decide), rfl, rfl, by decide, rfl, _, rfl⟩

/-- The two ways to the checksum byte: a terminator, and the budget, exactly. -/
def afterTerm : State := { midDecode with termSeen := true, readIdx := 3 }

def atBudget : State := { midDecode with cursor := 10, readIdx := 10 }

theorem witness_ChecksumByte :
    (BothTurns afterTerm ∧ afterTerm.activity = .decoding ∧ afterTerm.termSeen = true ∧
      ∃ s1, afterTerm.takeByte = some (0x0B, s1)) ∧
    (BothTurns atBudget ∧ atBudget.activity = .decoding ∧ 10 ≤ atBudget.cursor ∧
      ∃ s1, atBudget.takeByte = some (0x00, s1)) :=
  ⟨⟨bothTurns_of_empty _ rfl (by decide), rfl, rfl, _, rfl⟩, bothTurns_of_empty _ rfl (by decide), rfl, by decide, _, rfl⟩

/-- Inside the message, and at its checksum byte, the eleventh: the decode ends. -/
theorem witness_ChecksumCovers :
    let m := msgOf [0x40, 0x0A, 0x40, 0x0B, 0x00, 0x00]
    let last : State := { midDecode with cursor := 10, readIdx := 10, csum := 0x01 }
    (midDecode.csum = (m.toList.take 2).foldl (· ^^^ ·) (0x00 : Byte) ∧
      goesOn (step midDecode) (fun t => decide (t.readIdx ≤ 11)) = true) ∧
    (last.src = .captured m ∧ last.csum = (m.toList.take 10).foldl (· ^^^ ·) (0x00 : Byte) ∧
      goesOn (step last) (fun t => decide (t.readIdx ≤ 11 ∧ t.activity = .idle ∧ t.checksumError = true)) = true) := by
  decide +kernel

theorem witness_ReadPastTheMessage : 11 ≤ ({ midDecode with readIdx := 11 } : State).readIdx := by decide

theorem witness_WrittenByte : waveformOk (cfgOf .edgeDriven) ∧ busDecode.src = .bus := by
  refine ⟨⟨by decide, fun _ => by decide⟩, by decide⟩

/-- 88 cells, the shortest, the longest and both edges of the data range among them, one slot left in the queue. -/
theorem witness_CapturedBytes :
    let s : State := { idle .edgeDriven with state := .playerSending, cmqHead := 9, cmqLen := 9 }
    let cells := (List.replicate 17 [0, 99, 100, 249, 50000]).flatten ++ [250, 150, 50]
    s.state = .playerSending ∧ s.bitIdx = 0 ∧ s.msg = Vector.replicate 11 0 ∧ s.cmqHead < 10 ∧ s.cmqLen < 10 ∧
      cells.length = 88 ∧ ∀ d ∈ cells, d ≤ s.cfg.noiseMaxUs ∧ inRange d s.cfg.ranges.presync = false := by
  decide +kernel

theorem witness_RangesAreClosedOpen : (⟨100, 101⟩ : PulseRange).lo < (⟨100, 101⟩ : PulseRange).hi := by decide

theorem witness_SafeTable : adjacentRangeSafe Config.defaultRanges := by
  refine ⟨?_, ?_, ?_, ?_, ?_⟩ <;> decide

/-- The host with one command to issue. -/
def hostSays (v : Variant) (c : Command) : State := { idle v with cmds := [c] }

/-- The edge-driven and the polled machine with one edge waiting, whose default turn is the interrupt context's. -/
def edgeWaits (v : Variant) (dt : Nat) : State := { idle v with edges := [dt] }

/-- The two turns at which the interrupt context meets a state with no schedule left and no work for the main context. -/
def BothInterruptTurns (s : State) : Prop :=
  s.interruptSees s ∧ State.interruptSees { s with sched := [.interrupt, .main] } { s with sched := [.main] }

theorem bothInterruptTurns_of_empty (s : State) (h : s.sched = []) (ha : s.activity = .idle) (hc : s.cmds = []) :
    BothInterruptTurns s := ⟨.inl ⟨h, ha, hc, rfl⟩, .inr ⟨_, rfl, rfl⟩⟩

/-- The registration; an interrupt turn before it and one in the polled variant, with an edge waiting; an edge that falls,
and one that rises. -/
theorem witness_RisingEdge :
    let h := hostSays .edgeDriven .registerEdgeCallback
    let s := edgeWaits .edgeDriven 0
    let low : State := { s with lineHigh := false }
    let before : State := { s with edgeEnabled := false }
    (BothTurns h ∧ h.cfg.variant = .edgeDriven ∧ h.activity = .idle ∧ h.cmds = [.registerEdgeCallback]) ∧
    (BothInterruptTurns before ∧ before.edgeEnabled = false) ∧
    (BothInterruptTurns (edgeWaits .polled 0) ∧ (edgeWaits .polled 0).cfg.variant = .polled) ∧
    (BothInterruptTurns s ∧ s.cfg.variant = .edgeDriven ∧ s.edgeEnabled = true ∧ s.edges = [0] ∧ s.lineHigh = true) ∧
    (BothInterruptTurns low ∧ low.cfg.variant = .edgeDriven ∧ low.edgeEnabled = true ∧ low.edges = [0] ∧
      low.lineHigh = false) :=
  ⟨⟨bothTurns_of_empty _ rfl (by decide), by decide⟩, ⟨bothInterruptTurns_of_empty _ rfl rfl rfl, by decide⟩,
    ⟨bothInterruptTurns_of_empty _ rfl rfl rfl, by decide⟩, ⟨bothInterruptTurns_of_empty _ rfl rfl rfl, by decide⟩,
    bothInterruptTurns_of_empty _ rfl rfl rfl, by decide⟩

theorem witness_Noise : (idle .edgeDriven).cfg.noiseMaxUs < 50001 := by decide

theorem witness_Presync : 900 ≤ (idle .edgeDriven).cfg.noiseMaxUs ∧ inRange 900 (idle .edgeDriven).cfg.ranges.presync = true ∧
    inRange 1599 (idle .edgeDriven).cfg.ranges.presync = true := by decide

/-- The durations of the four clauses, each at an edge of its range. -/
theorem witness_FirstAndSecondPulse :
    let c := cfgOf .edgeDriven
    c.variant = .edgeDriven ∧ (idle .edgeDriven).state = .awaitingMessage ∧
    (39000 ≤ c.noiseMaxUs ∧ inRange 39000 c.ranges.presync = false ∧ inRange 39000 c.ranges.presyncReset = true) ∧
    (45000 ≤ c.noiseMaxUs ∧ inRange 45000 c.ranges.presync = false ∧ inRange 45000 c.ranges.presyncReset = false) ∧
    (249 ≤ c.noiseMaxUs ∧ inRange 249 c.ranges.presync = false ∧ inRange 249 c.ranges.sync = true) ∧
    (250 ≤ c.noiseMaxUs ∧ inRange 250 c.ranges.presync = false ∧ inRange 250 c.ranges.sync = false) := by decide

/-- A bit cell for the statements about the bit phases: neither noise nor presync, at the noise bound too. -/
theorem witness_bit_cell : 150 ≤ (cfgOf .edgeDriven).noiseMaxUs ∧ inRange 150 (cfgOf .edgeDriven).ranges.presync = false ∧
    50000 ≤ (cfgOf .edgeDriven).noiseMaxUs ∧ inRange 50000 (cfgOf .edgeDriven).ranges.presync = false := by decide

/-- The bit phases at their first and last index. -/
def inPhase (f : FrameState) (i : Nat) : State := { idle .edgeDriven with state := f, bitIdx := i, hasOutboundData := true }

theorem witness_header_phases : (inPhase .inRemoteHeader 0).bitIdx ≤ 7 ∧ (inPhase .inRemoteHeader 7).bitIdx ≤ 7 ∧
    (inPhase .inRemoteHeader 7).state = .inRemoteHeader ∧ (inPhase .inPlayerHeader 0).bitIdx < 7 ∧
    (inPhase .inPlayerHeader 6).bitIdx < 7 ∧ (inPhase .inPlayerHeader 6).state = .inPlayerHeader := by decide

/-- The four ways out of the player header (the last for each of its two reasons). -/
theorem witness_EighthHeaderBit :
    let s := inPhase .inPlayerHeader 7
    s.state = .inPlayerHeader ∧ s.bitIdx = 7 ∧ ({ s with isInitialized := false } : State).isInitialized = false ∧
    (s.isInitialized = true ∧ s.flagsByte.getLsbD 0 = false ∧ s.flagsByte.getLsbD 4 = false) ∧
    (({ s with flagsByte := 0x10 } : State).flagsByte.getLsbD 4 = true ∧ s.hasOutboundData = true) ∧
    (({ s with flagsByte := 0x11, hasOutboundData := false } : State).flagsByte.getLsbD 4 = true ∧
      ({ s with flagsByte := 0x11, hasOutboundData := false } : State).hasOutboundData = false) ∧
    (({ s with flagsByte := 0x01 } : State).flagsByte.getLsbD 4 = false ∧
      ({ s with flagsByte := 0x01 } : State).flagsByte.getLsbD 0 = true) := by decide

/-- One bit before the last, the last with one slot left, the last with none. -/
theorem witness_PlayerMessageBit : (inPhase .playerSending 86).state = .playerSending ∧ (inPhase .playerSending 86).bitIdx < 87 ∧
    (inPhase .playerSending 87).bitIdx = 87 ∧ ({ inPhase .playerSending 87 with cmqLen := 9 } : State).cmqLen < 10 ∧
    10 ≤ ({ inPhase .playerSending 87 with cmqLen := 10 } : State).cmqLen := by decide

theorem witness_OutboundBit : (inPhase .remoteSending 86).state = .remoteSending ∧ (inPhase .remoteSending 86).bitIdx < 87 ∧
    (inPhase .remoteSending 87).bitIdx = 87 := by decide

/-- Below the noise bound: the longest pulse that is none; and the 88th outbound bit, which does clear the outbound state. -/
theorem witness_NoSessionReset :
    let s : State := { edgeWaits .edgeDriven 38999 with
      cfg := { cfgOf .edgeDriven with noiseMaxUs := 38999 }, lineHigh := false }
    let u : State := { s with state := .remoteSending, bitIdx := 87, hasOutboundData := true }
    (BothInterruptTurns s ∧ s.cfg.variant = .edgeDriven ∧ s.cfg.noiseMaxUs < s.cfg.ranges.presyncReset.lo ∧
      s.isInitialized = true ∧ s.isReadyForText = true ∧ ∃ t, step s = .next t) ∧
    BothInterruptTurns u ∧ ∃ t, step u = .next t ∧ t.hasOutboundData ≠ u.hasOutboundData :=
  ⟨⟨bothInterruptTurns_of_empty _ rfl rfl rfl, rfl, by decide, rfl, rfl, _, rfl⟩,
    bothInterruptTurns_of_empty _ rfl rfl rfl, _, rfl, by decide⟩

/-- The polled call in a phase, with the given pulses. -/
def polledIn (a : Activity) (ps : List Nat) : State := { idle .polled with activity := a, pulses := ps }

/-- The call itself, and the five clauses, each duration at an edge of its range. -/
theorem witness_PolledFirstAndSecondPulse :
    let c := cfgOf .polled
    BothTurns (hostSays .polled .pollFrame) ∧ BothTurns (polledIn .awaitPresync [44999]) ∧
    BothTurns (polledIn .awaitSync [190]) ∧
    (hostSays .polled .pollFrame).cfg.variant = .polled ∧ (hostSays .polled .pollFrame).activity = .idle ∧
    (hostSays .polled .pollFrame).cmds = [.pollFrame] ∧ (polledIn .awaitPresync [44999]).cfg.variant = .polled ∧
    (polledIn .awaitPresync [44999]).pulses = [44999] ∧ (polledIn .awaitPresync [44999]).activity = .awaitPresync ∧
    inRange 44999 c.ranges.presyncReset = true ∧
    (inRange 900 c.ranges.presyncReset = false ∧ inRange 900 c.ranges.presync = true) ∧
    (inRange 1600 c.ranges.presyncReset = false ∧ inRange 1600 c.ranges.presync = false) ∧
    (polledIn .awaitSync [190]).activity = .awaitSync ∧ inRange 190 c.ranges.sync = true ∧
    inRange 189 c.ranges.sync = false :=
  ⟨bothTurns_of_empty _ rfl (by decide), bothTurns_of_empty _ rfl (by decide), bothTurns_of_empty _ rfl (by decide), by decide⟩

theorem witness_PolledRemoteHeader :
    BothTurns (polledIn .remoteHeader []) ∧ (polledIn .remoteHeader []).activity = .remoteHeader :=
  ⟨bothTurns_of_empty _ rfl (by decide), rfl⟩

/-- The clauses of the polled branch: uninitialised, a message, a drain with a full buffer, and both ways to nothing. -/
theorem witness_PolledPlayerHeader :
    let r := Config.defaultRanges
    let s := polledIn .playerHeader (cellsOf 0x10)
    BothTurns s ∧ s.activity = .playerHeader ∧ s.pulses = [150, 150, 150, 150, 50, 150, 150, 150] ∧
    ({ s with isInitialized := false } : State).isInitialized = false ∧
    (s.isInitialized = true ∧ dataBit r 249 = false ∧ dataBit r 100 = false) ∧
    (dataBit r 99 = true ∧ ({ s with hasOutboundData := true, outCursor := 88 } : State).hasOutboundData = true ∧
      ({ s with hasOutboundData := true, outCursor := 88 } : State).outCursor ≤ 88) ∧
    (dataBit r 250 = true ∧ s.hasOutboundData = false) := ⟨bothTurns_of_empty _ rfl (by decide), by decide +kernel⟩

/-- The three clauses, each one pulse short at most; and a packet of ten bytes cut off one cell before its end. -/
theorem witness_PolledCallWithoutPulses :
    let cut : State := { busDecode with pulses := cellsOf 0xC8 ++ List.replicate 71 150 }
    (BothTurns (polledIn .awaitPresync []) ∧ (polledIn .awaitPresync []).pulses = []) ∧
    (BothTurns (polledIn .awaitSync []) ∧ (polledIn .awaitSync []).pulses = []) ∧
    (BothTurns (polledIn .playerHeader (List.replicate 7 150)) ∧
      (polledIn .playerHeader (List.replicate 7 150)).pulses.length < 8) ∧
    (BothTurns { busDecode with pulses := List.replicate 7 150 } ∧
      ({ busDecode with pulses := List.replicate 7 150 } : State).pulses.length < 8) ∧
    BothTurns cut ∧ cut.activity = .decoding ∧ cut.src = .bus ∧ cut.termSeen = false ∧ cut.cursor < 10 ∧
    cut.draining = false ∧ cut.pulses = cellsOf 0xC8 ++ List.replicate 71 150 ∧
    (cellsOf 0xC8).map (dataBit cut.cfg.ranges) = byteBits 0xC8 ∧
    (List.replicate 71 150).length < 8 * payloadBytes 0xC8 :=
  ⟨⟨bothTurns_of_empty _ rfl (by decide), by decide⟩, ⟨bothTurns_of_empty _ rfl (by decide), by decide⟩, ⟨bothTurns_of_empty _ rfl (by decide), by decide⟩,
    ⟨bothTurns_of_empty _ rfl (by decide), by decide⟩, bothTurns_of_empty _ rfl (by decide), by decide +kernel⟩

/-- The four clauses at the last cursor that fits and the first that does not. -/
theorem witness_QueuedBits :
    let bit := hostSays .polled (.queueOutboundBit true)
    let byte := hostSays .polled (.queueOutboundByte 0xFF)
    BothTurns bit ∧ BothTurns byte ∧ bit.activity = .idle ∧ bit.cmds = [.queueOutboundBit true] ∧ byte.cmds = [.queueOutboundByte 0xFF] ∧
    ({ bit with outCursor := 87 } : State).outCursor < 88 ∧ 88 ≤ ({ bit with outCursor := 88 } : State).outCursor ∧
    ({ byte with outCursor := 80 } : State).outCursor + 8 ≤ 88 ∧
    88 < ({ byte with outCursor := 81 } : State).outCursor + 8 :=
  ⟨bothTurns_of_empty _ rfl (by decide), bothTurns_of_empty _ rfl (by decide), by decide⟩

theorem witness_FinalizeAndChecksumQuery :
    BothTurns (hostSays .polled .finalizeOutboundMessage) ∧ BothTurns (hostSays .edgeDriven .hasChecksumError) ∧
    (hostSays .polled .finalizeOutboundMessage).activity = .idle ∧
    (hostSays .polled .finalizeOutboundMessage).cmds = [.finalizeOutboundMessage] ∧
    (hostSays .edgeDriven .hasChecksumError).activity = .idle ∧
    (hostSays .edgeDriven .hasChecksumError).cmds = [.hasChecksumError] :=
  ⟨bothTurns_of_empty _ rfl (by decide), bothTurns_of_empty _ rfl (by decide), by decide⟩

/-- A push with one slot left, a full queue, an empty one. -/
theorem witness_EventsPop :
    let s := hostSays .polled .nextEvent
    BothTurns (State.pushEvent { s with evCount := 9 } (.volumeLevel 0x00)) ∧ BothTurns { s with evCount := 10 } ∧
    BothTurns s ∧ s.activity = .idle ∧ s.cmds = [.nextEvent] ∧ s.evCount = 0 ∧
    ({ s with evCount := 9 } : State).evCount < 10 ∧ RemoteEvent.volumeLevel 0x00 ≠ .none ∧
    (0 < ({ s with evCount := 10 } : State).evCount ∧ ({ s with evCount := 10 } : State).evCount - 1 < 10) :=
  ⟨bothTurns_of_empty _ rfl (by decide), bothTurns_of_empty _ rfl (by decide), bothTurns_of_empty _ rfl (by decide), by decide⟩

/-- One slot left, none left, one message waiting. -/
theorem witness_MessagesAreFirstInFirstOut :
    let s : Nat → State := fun n => { idle .edgeDriven with cmqHead := 9, cmqLen := n }
    (s 9).cmqHead < 10 ∧ (s 9).cmqLen < 10 ∧ (s 10).cmqLen = 10 ∧ (s 10).cmqLen ≤ 10 ∧ 0 < (s 1).cmqLen := by decide

theorem witness_DecodeNext :
    let s := hostSays .edgeDriven .decodeNext
    BothTurns s ∧ BothTurns { s with cmqLen := 1, cmqHead := 9 } ∧ s.cfg.variant = .edgeDriven ∧ s.activity = .idle ∧
      s.cmds = [.decodeNext] ∧ s.cmqLen = 0 ∧
      ({ s with cmqLen := 1, cmqHead := 9 } : State).cmqLen ≠ 0 ∧ ({ s with cmqLen := 1, cmqHead := 9 } : State).cmqHead < 10 :=
  ⟨bothTurns_of_empty _ rfl (by decide), bothTurns_of_empty _ rfl (by decide), by decide⟩

theorem witness_PowerOnTurn : ({ midDecode with sched := [.powerOn] } : State).sched = [.powerOn] := by decide

/-- For the statements about every step. -/
theorem witness_a_step : ∃ t, step midDecode = .next t := ⟨_, rfl⟩

theorem midDecode_outTail : ∀ k, k < 88 → midDecode.outCursor ≤ k → getBit midDecode.out k = false := by decide +kernel

theorem midDecode_msgTail : ∀ k, k < 88 → midDecode.bitIdx ≤ k → getBit midDecode.msg k = false := by decide +kernel

/-- A state in the middle of a decode and of a capture meets the invariant. -/
theorem witness_Invariant : midDecode.Inv where
  idleBitIdx := by decide
  headerBitIdx := by decide
  dataBitIdx := by decide
  remoteSendingReady := by decide
  polledState := by decide
  sessionFlags := by decide
  cmqHead_lt := by decide
  cmqLen_le := by decide
  outCursor_le := by decide
  outTail := fun k h1 h2 => midDecode_outTail k h2 h1
  msgTail := fun _ k h1 h2 => midDecode_msgTail k h2 h1
  lcdOff_le := by decide
  cursor_le := by decide
  eventBytes := by decide
  evCount_le := by decide
  events := by
    intro k e hk he
    obtain rfl : k = 0 := by
      have h1 : midDecode.evCount = 1 := rfl
      omega
    cases he
    trivial
  tLast_le := by decide
  readIdx_eq := by decide
  decodeSource := fun _ => rfl
  overrun_iff := by decide
  polledPhase := by decide

theorem witness_EdgeDrivenMachine : midDecode.cfg.variant = .edgeDriven ∧
    ∀ c ∈ ({ midDecode with cmds := [.decodeNext, .nextEvent] } : State).cmds,
      Command.inVariant midDecode.cfg.variant c = true := by decide

/-- With the pulses of the longest packet to come, exactly. -/
theorem witness_PolledMachine :
    let s : State := { busDecode with pulses := List.replicate 80 150, cmds := [.pollFrame] }
    s.cfg.variant = .polled ∧ (∀ c ∈ s.cmds, Command.inVariant s.cfg.variant c = true) ∧ 80 ≤ s.pulses.length := by
  decide +kernel

/-- The 88th message bit arrives in the middle of a decode; and an edge arrives by default beside an idle main context. -/
theorem witness_InterruptContext :
    let s : State := { midDecode with sched := [.main], edges := [150], edgeEnabled := true, cmqLen := 9 }
    (State.interruptSees { s with sched := [.interrupt, .main] } s ∧
      ∃ t, step { s with sched := [.interrupt, .main] } = .next t ∧ t.cmqLen = 10) ∧
    State.interruptSees (edgeWaits .edgeDriven 10) (edgeWaits .edgeDriven 10) ∧
      ∃ t, step (edgeWaits .edgeDriven 10) = .next t ∧ t.lineHigh = false :=
  ⟨⟨.inr ⟨_, rfl, rfl⟩, _, rfl, rfl⟩, .inl ⟨rfl, rfl, rfl, rfl⟩, _, rfl, rfl⟩

/-- A packet is decoded in the middle of a capture, at a turn of the schedule and by default; and a host command is taken
between decodes. -/
theorem witness_MainContext :
    (BothTurns midDecode ∧ midDecode.cfg.variant = .edgeDriven ∧ midDecode.activity = .decoding ∧
      (∃ t, step midDecode = .next t ∧ t.evCount = 2) ∧
      ∃ t, step { midDecode with sched := [.main, .interrupt] } = .next t ∧ t.evCount = 2) ∧
    BothTurns (hostSays .edgeDriven (.queueOutboundByte 0x01)) ∧
    (hostSays .edgeDriven (.queueOutboundByte 0x01)).activity = .idle ∧
    ∃ t, step (hostSays .edgeDriven (.queueOutboundByte 0x01)) = .next t ∧ t.outCursor = 8 :=
  ⟨⟨bothTurns_of_empty _ rfl (by decide), rfl, rfl, ⟨_, rfl, rfl⟩, _, rfl, rfl⟩,
    bothTurns_of_empty _ rfl (by decide), rfl, _, rfl, rfl⟩

theorem witness_ChecksumFlagChanges : ∃ t, step { midDecode with termSeen := true, readIdx := 3 } = .next t ∧
    t.checksumError ≠ ({ midDecode with termSeen := true, readIdx := 3 } : State).checksumError :=
  ⟨_, rfl, by decide +kernel⟩

/-- A capability request is decoded while seven bits are staged, at a main turn with an interrupt turn after it. -/
theorem witness_DecodingSendsNothing :
    let s : State := { reading [0x01, 0x01] with out := zeroBuf.set 0 0x5A, outCursor := 7, sched := [.interrupt] }
    State.mainSees { s with sched := [.main, .interrupt] } s ∧ s.activity = .decoding ∧
    ∃ t, step { s with sched := [.main, .interrupt] } = .next t ∧ t.hasOutboundData = true :=
  ⟨.inr ⟨_, rfl, rfl⟩, rfl, _, rfl, rfl⟩

end Sys2Proof.Tests
end

/-! PROOF. When the Timing Classifier gives each symbol (R131 to R133), and the disjointness that R10 asks of the two ranges
tested on a first pulse. -/

namespace Sys2Proof.Machine

/-! ## The range test (R131) -/

theorem inRange_eq_true_iff (d : Nat) (r : PulseRange) : inRange d r = true ↔ r.lo ≤ d ∧ d < r.hi := by
  simp [inRange]

theorem inRange_eq_false_iff (d : Nat) (r : PulseRange) : inRange d r = false ↔ ¬(r.lo ≤ d ∧ d < r.hi) := by
  rw [← Bool.not_eq_true, inRange_eq_true_iff]

/-- R10: a safe table's presync range ends before its presync-reset range begins, so no duration lies in both. -/
theorem adjacentRangeSafe.presyncReset_eq_false {t : RangeTable} {d : Nat} (safe : adjacentRangeSafe t)
    (hp : inRange d t.presync = true) : inRange d t.presyncReset = false := by
  obtain ⟨-, -, -, -, hsep⟩ := safe
  rw [inRange_eq_true_iff] at hp
  rw [inRange_eq_false_iff]
  omega

/-! ## The first pulse (R132), for any table -/

theorem classifyStart_eq_presyncReset_iff (t : RangeTable) (d : Nat) :
    classifyStart t d = .presyncReset ↔ inRange d t.presyncReset = true := by
  unfold classifyStart
  repeat' split
  all_goals simp [*]

/-- The presync-reset test comes first: a presync is a duration that fails it and lies in the presync range. -/
theorem classifyStart_eq_presync_iff (t : RangeTable) (d : Nat) :
    classifyStart t d = .presync ↔ inRange d t.presyncReset = false ∧ inRange d t.presync = true := by
  unfold classifyStart
  repeat' split
  all_goals simp [*]

theorem classifyStart_eq_invalid_iff (t : RangeTable) (d : Nat) :
    classifyStart t d = .invalid ↔ inRange d t.presyncReset = false ∧ inRange d t.presync = false := by
  unfold classifyStart
  repeat' split
  all_goals simp [*]

/-- With a safe table the presync-reset test rejects every duration of the presync range, so its place before the presync
test does not matter. -/
theorem classifyStart_eq_presync_iff_of_safe {t : RangeTable} (safe : adjacentRangeSafe t) (d : Nat) :
    classifyStart t d = .presync ↔ inRange d t.presync = true := by
  rw [classifyStart_eq_presync_iff]
  exact ⟨And.right, fun hp => ⟨safe.presyncReset_eq_false hp, hp⟩⟩

/-! ## The second pulse (R133), for any table -/

theorem classifySync_eq_sync_iff (t : RangeTable) (d : Nat) :
    classifySync t d = .sync ↔ t.sync.lo ≤ d ∧ d < t.sync.hi := by
  rw [← inRange_eq_true_iff]
  unfold classifySync
  split <;> simp [*]

theorem classifySync_eq_invalid_iff (t : RangeTable) (d : Nat) :
    classifySync t d = .invalid ↔ ¬(t.sync.lo ≤ d ∧ d < t.sync.hi) := by
  rw [← inRange_eq_false_iff]
  unfold classifySync
  split <;> simp [*]

/-- Settles O28: the two ranges of a first pulse are disjoint in a safe table, and the second pulse has one range only. -/
theorem safeTableMakesTestOrderImmaterial : Obligations.SafeTableMakesTestOrderImmaterial := by
  unfold Obligations.SafeTableMakesTestOrderImmaterial
  constructor
  · intro t d safe
    exact ⟨classifyStart_eq_presyncReset_iff t d, classifyStart_eq_presync_iff_of_safe safe d,
      classifyStart_eq_invalid_iff t d⟩
  · intro t d
    exact ⟨classifySync_eq_sync_iff t d, classifySync_eq_invalid_iff t d⟩

end Sys2Proof.Machine

/-! PROOF. The values that reset leaves (R45, R370). -/

namespace Sys2Proof.Machine

/-! ## The values of reset (R45, R370) -/

theorem State.peek_out_reset {i : Nat} (hi : i < 11) : State.reset.peek .out i = some 0x00 := by
  simp [State.peek, State.reset, hi]

/-- Settles O48: the values are those of `State.reset`, the bytes of `OUT` read one by one. -/
theorem resetLeavesTheStatedValues : Obligations.ResetLeavesTheStatedValues :=
  ⟨rfl, rfl, rfl, rfl, rfl, rfl, fun _ => State.peek_out_reset, rfl, rfl, rfl, rfl, rfl, rfl, rfl⟩

/-- A step at a turn of the reset pin is the power-on reset. -/
theorem step_of_powerOn {s : State} {ts : List Turn} (h : s.sched = .powerOn :: ts) :
    step s = .next (State.powerOnReset { s with sched := ts }) := by
  simp [step, State.nextTurn, h, State.turn]

/-- Settles O49: the step is the power-on reset, which gives the hardware the values of `State.reset`. -/
theorem powerOnTurnResets : Obligations.PowerOnTurnResets := fun _ _ h =>
  ⟨_, step_of_powerOn h, rfl, rfl, rfl, rfl, rfl, rfl, fun _ => State.peek_out_reset,
    rfl, rfl, rfl, rfl, rfl, rfl, rfl, rfl, rfl, rfl, rfl, rfl⟩

end Sys2Proof.Machine

/-! PROOF. What each operation of the machine can do, said once: packets, the decode loop, the polled call, the host commands, the
edge-driven framer, and whose turn a step is. -/

namespace Sys2Proof.Machine

/-! ## Buffers filled bit by bit -/

/-- The bits from `c` on are 0: what a buffer filled in order up to bit `c` looks like (R61, R62). -/
def FilledTo (buf : Vector Byte 11) (c : Nat) : Prop := c ≤ 88 ∧ ∀ k, c ≤ k → k < 88 → getBit buf k = false

theorem filledTo_zeroBuf : FilledTo zeroBuf 0 := ⟨Nat.zero_le 88, fun k _ _ => getBit_zeroBuf k⟩

theorem FilledTo.orBits {buf : Vector Byte 11} {c : Nat} (h : FilledTo buf c) (bs : List Bool)
    (hc : c + bs.length ≤ 88) : FilledTo (orBits buf c bs) (c + bs.length) := by
  obtain ⟨-, hz⟩ := h
  refine ⟨hc, fun k hk hk88 => ?_⟩
  have past : bs.length ≤ k - c := by omega
  rw [getBit_orBits bs buf c k hc, hz k (by omega) hk88]
  simp [past]

theorem FilledTo.orBit {buf : Vector Byte 11} {c : Nat} (h : FilledTo buf c) (b : Bool) (hc : c < 88) :
    FilledTo (orBit buf c b) (c + 1) := h.orBits [b] hc

/-! ## What a packet handler may do (R171) -/

/-- What a packet handler does beside reading its payload: it stages outbound bits, appends to or drops the accumulated
text, starts draining, logs. The staging commands of the host do a part of it. -/
structure State.Handles (s t : State) : Prop where
  frame : ∃ o c b l lo dr ds, t =
    { s with out := o, outCursor := c, hasOutboundData := b, lcd := l, lcdOff := lo, draining := dr, diags := ds }
  outCursor_le : s.outCursor ≤ t.outCursor
  outbound : s.hasOutboundData = true → t.hasOutboundData = true
  filled : FilledTo s.out s.outCursor → FilledTo t.out t.outCursor
  lcdOff_le : s.lcdOff ≤ 63 → t.lcdOff ≤ 63

theorem State.Handles.refl (s : State) : s.Handles s := ⟨⟨_, _, _, _, _, _, _, rfl⟩, le_rfl, id, id, id⟩

theorem State.Handles.trans {s t u : State} (h : s.Handles t) (h' : t.Handles u) : s.Handles u := by
  obtain ⟨⟨_, _, _, _, _, _, _, rfl⟩, hc, hb, hf, hl⟩ := h
  obtain ⟨⟨_, _, _, _, _, _, _, rfl⟩, hc', hb', hf', hl'⟩ := h'
  exact ⟨⟨_, _, _, _, _, _, _, rfl⟩, hc.trans hc', hb' ∘ hb, hf' ∘ hf, hl' ∘ hl⟩

/-- Logging, and starting to drain. -/
theorem State.Handles.log (s : State) (ds : List Diag) (dr : Bool) :
    s.Handles { s with diags := ds, draining := dr } := ⟨⟨_, _, _, _, _, _, _, rfl⟩, le_rfl, id, id, id⟩

/-- Bits staged behind the cursor. -/
theorem State.Handles.stageBits (s : State) (bs : List Bool) (h : s.outCursor + bs.length ≤ 88) :
    s.Handles { s with out := orBits s.out s.outCursor bs, outCursor := s.outCursor + bs.length } :=
  ⟨⟨_, _, _, _, _, _, _, rfl⟩, Nat.le_add_right _ _, id, fun hf => hf.orBits bs h, id⟩

/-- The text accumulator and its offset written. -/
theorem State.Handles.text (s : State) (l : Vector Byte 64) (lo : Nat) (h : s.lcdOff ≤ 63 → lo ≤ 63) :
    s.Handles { s with lcd := l, lcdOff := lo } := ⟨⟨_, _, _, _, _, _, _, rfl⟩, le_rfl, id, id, h⟩

theorem State.handles_queueBit (s : State) (b : Bool) : s.Handles (s.queueBit b) := by
  obtain ⟨h, e⟩ | ⟨-, e⟩ := s.queueBit_cases b
  · rw [e]; exact .stageBits s [b] h
  · rw [e]; exact .log s _ _

theorem State.handles_queueByte (s : State) (v : Byte) : s.Handles (s.queueByte v) := by
  obtain ⟨h, e⟩ | ⟨-, e⟩ := s.queueByte_cases v
  · rw [e]; exact .stageBits s (byteBits v) h
  · rw [e]; exact .log s _ _

theorem State.handles_queueBytes (vs : List Byte) (s : State) : s.Handles (s.queueBytes vs) := by
  induction vs generalizing s with
  | nil => exact .refl s
  | cons v vs ih => exact (s.handles_queueByte v).trans (ih _)

theorem State.handles_finalizeOutbound (s : State) : s.Handles s.finalizeOutbound :=
  ⟨⟨_, _, _, _, _, _, _, rfl⟩, le_rfl, fun _ => rfl, id, id⟩

theorem State.handles_stageCapability (s : State) : s.Handles s.stageCapability :=
  (State.handles_queueBytes _ s).trans (State.handles_finalizeOutbound _)

theorem State.handles_lcdAppend (cs : List Byte) (s : State) : s.Handles (State.lcdAppend cs s).1 := by
  induction cs generalizing s with
  | nil => exact .refl s
  | cons c cs ih =>
    unfold State.lcdAppend Config.lcdLastChar
    split
    · exact (State.Handles.text s _ _ (by omega)).trans (ih _)
    · exact ih s

theorem State.handles_lcdStore (s : State) (chars : List Byte) : s.Handles (s.lcdStore chars) := by
  have appended := State.handles_lcdAppend (lcdChunk chars) s
  unfold State.lcdStore
  dsimp only
  split
  · exact appended.trans (.log _ _ _)
  · exact appended

theorem State.handles_lcdFlush (s : State) : s.Handles s.lcdFlush.2 := .text s _ 0 fun _ => Nat.zero_le 63

/-- R40, R184: a flush emits at most 62 characters. -/
theorem State.queueable_lcdFlush {s : State} (h : s.lcdOff ≤ 63) : s.lcdFlush.1.queueable := by
  simp only [State.lcdFlush, State.lcdText, RemoteEvent.queueable, List.length_drop, List.length_take]
  omega

/-! ## What a packet does (R170 to R188, R213) -/

/-- A packet handled and counted whole, with at most one event pushed; that event took a payload (R221) and is one that
the Event Queue may hold (R189, R215). -/
def State.PacketHandled (i : Instr) (s t : State) : Prop :=
  ∃ s' ty p e, s.Handles s' ∧ t = s'.packetDone ty p e ∧ (encode i).length = 1 + p.length ∧
    (e = .none ∨ 1 ≤ p.length ∧ (s.lcdOff ≤ 63 → e.queueable))

theorem State.PacketHandled.of_push {i : Instr} {s s' : State} {ty : Byte} {p : List Byte} {e : RemoteEvent}
    (hs : s.Handles s') (hl : (encode i).length = 1 + p.length) (hp : 1 ≤ p.length)
    (he : s.lcdOff ≤ 63 → e.queueable) : State.PacketHandled i s (s'.packetDone ty p e) :=
  ⟨s', ty, p, e, hs, rfl, hl, .inr ⟨hp, he⟩⟩

theorem State.PacketHandled.of_none {i : Instr} {s s' : State} {ty : Byte} {p : List Byte}
    (hs : s.Handles s') (hl : (encode i).length = 1 + p.length) :
    State.PacketHandled i s (s'.packetDone ty p .none) := ⟨s', ty, p, .none, hs, rfl, hl, .inl rfl⟩

/-- An indicator packet: nothing but its event. -/
theorem State.PacketHandled.of_indicator {i : Instr} (s : State) {ty v : Byte} {e : RemoteEvent}
    (hl : (encode i).length = 2) (he : e.queueable) : State.PacketHandled i s (s.packetDone ty [v] e) :=
  .of_push (.refl s) hl le_rfl fun _ => he

theorem execCapreq_handled {v : Byte} {s t : State} (h : exec (.capreq v) s = .next t) :
    State.PacketHandled (.capreq v) s t := by
  simp only [exec, execCapreq] at h
  split at h
  · obtain rfl := Host.Outcome.next.inj h
    exact .of_none s.handles_stageCapability rfl
  · obtain rfl := Host.Outcome.next.inj h
    exact .of_none (.log s _ _) rfl

theorem execLcd_handled {seg unk c0 c1 c2 c3 c4 c5 c6 : Byte} {s t : State}
    (h : exec (.lcd seg unk c0 c1 c2 c3 c4 c5 c6) s = .next t) :
    State.PacketHandled (.lcd seg unk c0 c1 c2 c3 c4 c5 c6) s t := by
  have stored := s.handles_lcdStore [c0, c1, c2, c3, c4, c5, c6]
  simp only [exec, execLcd] at h
  split at h
  · obtain rfl := Host.Outcome.next.inj h
    exact .of_push (stored.trans (State.handles_lcdFlush _)) rfl (by simp)
      fun hl => State.queueable_lcdFlush (stored.lcdOff_le hl)
  · obtain rfl := Host.Outcome.next.inj h
    exact .of_none stored rfl

/-- The terminator ends the loop; every other packet is handled and counted. -/
theorem exec_cases {i : Instr} {s t : State} (h : exec i s = .next t) :
    (i = .term ∧ t = { s with csum := accumulate s.csum [0x00], termSeen := true }) ∨ State.PacketHandled i s t := by
  cases i with
  | term => cases h; exact .inl ⟨rfl, rfl⟩
  | capreq v => exact .inr (execCapreq_handled h)
  | lcdclr => cases h; exact .inr (.of_none (.text s s.lcd 0 fun _ => Nat.zero_le 63) rfl)
  | vol v => cases h; exact .inr (.of_indicator s rfl trivial)
  | mode v => cases h; exact .inr (.of_indicator s rfl trivial)
  | record v => cases h; exact .inr (.of_indicator s rfl trivial)
  | batt v => cases h; exact .inr (.of_indicator s rfl trivial)
  | eqind v => cases h; exact .inr (.of_indicator s rfl trivial)
  | alarm v => cases h; exact .inr (.of_indicator s rfl trivial)
  | track p0 p1 p2 p3 => cases h; exact .inr (.of_push (.refl s) rfl (by simp) fun _ => trivial)
  | lcd seg unk c0 c1 c2 c3 c4 c5 c6 => exact .inr (execLcd_handled h)
  | unknown ty => cases h; exact .inr (.of_none (.log s _ _) rfl)

/-- The loop's part of a packet writes the checksum, the cursor and the Event Queue. -/
theorem State.packetDone_frame (s : State) (ty : Byte) (p : List Byte) (e : RemoteEvent) :
    ∃ q k, s.packetDone ty p e =
      { s with csum := accumulate s.csum (ty :: p), cursor := s.cursor + (1 + p.length), evq := q, evCount := k } := by
  rw [State.packetDone_eq]
  obtain ⟨h, -⟩ | ⟨-, -, h⟩ := State.pushEvent_cases
    { s with csum := accumulate s.csum (ty :: p), cursor := s.cursor + (1 + p.length) } e
  · exact ⟨_, _, h⟩
  · exact ⟨_, _, h⟩

/-! ## The steps of the decode loop (R213 to R217) -/

/-- One byte taken changes the byte source's own fields and the overrun report. -/
theorem State.takeByte_frame {s t : State} {b : Byte} (h : s.takeByte = some (b, t)) :
    ∃ ps fi ov ds,
      t = { s with pulses := ps, readIdx := s.readIdx + 1, freeIdx := fi, overrun := ov, diags := ds } := by
  obtain ⟨-, ps, -, rfl⟩ | ⟨m, -, -, rfl⟩ | ⟨m, -, -, -, rfl⟩ := State.takeByte_cases h
  all_goals exact ⟨_, _, _, _, rfl⟩

theorem State.packetStep_cases {s t : State} (h : s.packetStep = .next t) :
    ∃ bs s1 i rest, s.fetchPacket = some (bs, s1) ∧ decode bs = .ok i rest ∧ exec i s1 = .next t := by
  unfold State.packetStep at h
  split at h
  · cases h
  · rename_i bs s1 hf
    split at h
    · rename_i i rest hd
      exact ⟨bs, s1, i, rest, hf, hd, h⟩
    · cases h

theorem State.drainStep_cases {s t : State} (h : s.drainStep = .next t) :
    ∃ b s1, s.takeByte = some (b, s1) ∧ t = (s1.accumulateBytes [b]).advance 1 := by
  unfold State.drainStep State.readByte at h
  cases hb : s.takeByte with
  | none => rw [hb] at h; cases h
  | some bs1 => rw [hb] at h; cases h; exact ⟨_, _, rfl, rfl⟩

/-- The end of a decode leaves the main context idle, and answers a `decodeNext`. -/
theorem State.endDecode_frame (s : State) : ∃ rs, s.endDecode = { s with activity := .idle, results := rs } := by
  unfold State.endDecode
  split
  · exact ⟨_, rfl⟩
  · exact ⟨_, rfl⟩

/-- R217: the verdict is stored and the decode is over. -/
theorem State.checksumStep_cases {s t : State} (h : s.checksumStep = .next t) :
    ∃ b s1 cs v rs, s.takeByte = some (b, s1) ∧
      t = { s1 with csum := cs, checksumError := v, activity := .idle, results := rs } := by
  unfold State.checksumStep State.readByte at h
  cases hb : s.takeByte with
  | none => rw [hb] at h; cases h
  | some bs1 =>
    rw [hb] at h
    simp only [Host.Outcome.next.injEq] at h
    split at h
    all_goals
      subst h
      rw [(State.endDecode_frame _).choose_spec]
      exact ⟨_, _, _, _, _, rfl, rfl⟩

/-- R213, R214, R216: which step of the loop it is. -/
theorem State.decodeStep_cases {s t : State} (h : s.decodeStep = .next t) :
    ((s.termSeen = true ∨ 10 ≤ s.cursor) ∧ s.checksumStep = .next t) ∨
      (s.termSeen = false ∧ s.cursor < 10 ∧ (s.drainStep = .next t ∨ s.packetStep = .next t)) := by
  unfold State.decodeStep at h
  split at h
  · rename_i ended
    simp only [Bool.or_eq_true, decide_eq_true_eq] at ended
    exact .inl ⟨ended, h⟩
  · rename_i running
    simp only [Bool.or_eq_true, decide_eq_true_eq, not_or, Bool.not_eq_true, not_le] at running
    obtain ⟨noTerm, budget⟩ := running
    refine .inr ⟨noTerm, budget, ?_⟩
    split at h
    · exact .inl h
    · exact .inr h

/-! ## The phases of a polled call (R230 to R241) -/

/-- The two errors of framing, after which the machine is idle (R332). -/
def ErrorClass.isFraming (e : ErrorClass) : Prop := e = .timingError ∨ e = .protocolReset

theorem State.polledPresync_cases {s t : State} (h : s.polledPresync = .next t) :
    ∃ ps, t = { s with pulses := ps, activity := .awaitSync } ∨
      ∃ e : ErrorClass, e.isFraming ∧ t = State.raiseError { s with pulses := ps } e := by
  unfold State.polledPresync State.takePulse at h
  cases hp : s.pulses with
  | nil => rw [hp] at h; cases h
  | cons d ps =>
    rw [hp] at h
    refine ⟨ps, ?_⟩
    dsimp only at h
    split at h
    · cases h; exact .inr ⟨_, .inr rfl, rfl⟩
    · cases h; exact .inl rfl
    · cases h; exact .inr ⟨_, .inl rfl, rfl⟩

theorem State.polledSync_cases {s t : State} (h : s.polledSync = .next t) :
    ∃ ps, t = { s with pulses := ps, activity := .remoteHeader } ∨
      ∃ e : ErrorClass, e.isFraming ∧ t = State.raiseError { s with pulses := ps } e := by
  unfold State.polledSync State.takePulse at h
  cases hp : s.pulses with
  | nil => rw [hp] at h; cases h
  | cons d ps =>
    rw [hp] at h
    refine ⟨ps, ?_⟩
    dsimp only at h
    split at h
    · cases h; exact .inl rfl
    · cases h; exact .inr ⟨_, .inl rfl, rfl⟩

theorem State.polledPlayerHeader_cases {s t : State} (h : s.polledPlayerHeader = .next t) :
    ∃ f ps, t = State.polledBranch { s with pulses := ps, flagsByte := f } := by
  unfold State.polledPlayerHeader at h
  split at h
  · cases h
  · cases h; exact ⟨_, _, rfl⟩

theorem State.polledBranch_cases (s : State) :
    s.polledBranch = { s.runInitialization with activity := .idle } ∨ s.polledBranch = s.startDecode .bus ∨
      s.polledBranch = { s.drainOutbound with activity := .idle } ∨ s.polledBranch = { s with activity := .idle } := by
  unfold State.polledBranch
  cases s.branch <;> simp

/-! ## The host commands (R310) -/

/-- What a host command does: it stages, it pops an event, it answers the flag, it starts a polled call or a decode in the
variant that has them, or it registers the callback. -/
theorem State.hostCommand_cases {s t : State} {c : Command} (h : s.hostCommand c = .next t) :
    s.Handles t ∨ t = s.nextEvent ∨ t = s.respond (.checksumError s.checksumError) ∨
      (s.cfg.variant = .polled ∧ t = { s with activity := .awaitPresync }) ∨
      (s.cfg.variant = .edgeDriven ∧ t = s.decodeNext) ∨ t = { s with edgeEnabled := true } := by
  unfold State.hostCommand at h
  split at h
  · cases h; exact .inr (.inl rfl)
  · cases h; exact .inr (.inr (.inl rfl))
  · cases h; exact .inl (s.handles_queueByte _)
  · cases h; exact .inl (s.handles_queueBit _)
  · cases h; exact .inl s.handles_finalizeOutbound
  · rename_i hv; cases h; exact .inr (.inr (.inr (.inl ⟨hv, rfl⟩)))
  · rename_i hv; cases h; exact .inr (.inr (.inr (.inr (.inl ⟨hv, rfl⟩))))
  · cases h; exact .inr (.inr (.inr (.inr (.inr rfl))))
  · cases h

/-- R311: an event is taken off the queue, or there is none; the host is answered. -/
theorem State.nextEvent_frame (s : State) :
    ∃ k rs, k ≤ s.evCount ∧ s.nextEvent = { s with evCount := k, results := rs } := by
  unfold State.nextEvent
  split
  · exact ⟨_, _, le_rfl, rfl⟩
  · exact ⟨_, _, Nat.sub_le _ 1, rfl⟩

/-- R316: a decode starts on a copy of the head, which leaves the queue; an empty queue is answered. -/
theorem State.decodeNext_cases (s : State) :
    (s.cmqLen = 0 ∧ s.decodeNext = s.respond (.decoded false)) ∨
      (0 < s.cmqLen ∧ s.decodeNext = s.cmqPop.startDecode (.captured s.cmqFront)) := by
  unfold State.decodeNext
  split
  · exact .inl ⟨‹_›, rfl⟩
  · exact .inr ⟨by omega, rfl⟩

/-! ## Turns (R75, R346) -/

/-- A main turn, by what the main context is in the middle of (R76, R82). -/
theorem State.mainTurn_cases {s t : State} (h : s.mainTurn = .next t) :
    (s.activity = .awaitPresync ∧ s.polledPresync = .next t) ∨ (s.activity = .awaitSync ∧ s.polledSync = .next t) ∨
      (s.activity = .remoteHeader ∧ t = s.polledRemoteHeader) ∨
      (s.activity = .playerHeader ∧ s.polledPlayerHeader = .next t) ∨
      (s.activity = .decoding ∧ s.decodeStep = .next t) ∨
      (s.activity = .idle ∧ (t = s ∨ ∃ c cs, State.hostCommand { s with cmds := cs } c = .next t)) := by
  unfold State.mainTurn at h
  split at h
  · exact .inl ⟨‹_›, h⟩
  · exact .inr (.inl ⟨‹_›, h⟩)
  · cases h; exact .inr (.inr (.inl ⟨‹_›, rfl⟩))
  · exact .inr (.inr (.inr (.inl ⟨‹_›, h⟩)))
  · exact .inr (.inr (.inr (.inr (.inl ⟨‹_›, h⟩))))
  · refine .inr (.inr (.inr (.inr (.inr ⟨‹_›, ?_⟩))))
    split at h
    · cases h; exact .inl rfl
    · exact .inr ⟨_, _, h⟩

/-- A step is a turn of the reset pin, of the main context or of the interrupt context; each sees the machine without
the head of the schedule. -/
theorem step_cases {s t : State} (h : step s = .next t) :
    (∃ ts, s.sched = .powerOn :: ts ∧ t = State.powerOnReset { s with sched := ts }) ∨
      (∃ ts, State.mainTurn { s with sched := ts } = .next t) ∨
      (∃ ts, t = State.interruptTurn { s with sched := ts }) := by
  unfold step State.nextTurn at h
  split at h
  · rename_i hs
    have same : s = { s with sched := [] } := by rw [← hs]
    unfold State.defaultTurn at h
    split at h
    · cases h; exact .inr (.inr ⟨[], by rw [← same]⟩)
    · exact .inr (.inl ⟨[], by rw [← same]; exact h⟩)
  · rename_i turn ts hs
    cases turn with
    | interrupt => cases h; exact .inr (.inr ⟨ts, rfl⟩)
    | main => exact .inr (.inl ⟨ts, h⟩)
    | powerOn => cases h; exact .inl ⟨ts, hs, rfl⟩

/-! ## The framer's handlers, edge-driven (R256 to R263) -/

theorem State.onBeforeSync_cases (s : State) (d : Nat) :
    s.onBeforeSync d = { s with state := .inRemoteHeader, bitIdx := 0 } ∨
      s.onBeforeSync d = s.raiseError .timingError := by
  unfold State.onBeforeSync
  split
  · exact .inl rfl
  · exact .inr rfl

theorem State.onAwaiting_cases (s : State) (d : Nat) :
    ∃ e : ErrorClass, e.isFraming ∧ s.onAwaiting d = s.raiseError e := by
  unfold State.onAwaiting
  split
  · exact ⟨_, .inr rfl, rfl⟩
  · exact ⟨_, .inl rfl, rfl⟩

theorem State.onRemoteHeader_cases (s : State) :
    ∃ bits, (s.bitIdx + 1 = 8 ∧ s.onRemoteHeader = { s with tx := bits, state := .inPlayerHeader, bitIdx := 0 }) ∨
      (s.bitIdx + 1 ≠ 8 ∧ s.onRemoteHeader = { s with tx := bits, bitIdx := s.bitIdx + 1 }) := by
  unfold State.onRemoteHeader
  dsimp only
  split
  · exact ⟨_, .inl ⟨‹_›, rfl⟩⟩
  · exact ⟨_, .inr ⟨‹_›, rfl⟩⟩

theorem State.onPlayerHeader_cases (s : State) (d : Nat) :
    ∃ f, (s.bitIdx + 1 = 8 ∧
        s.onPlayerHeader d = State.edgeDecide { s with flagsByte := f, bitIdx := s.bitIdx + 1 }) ∨
      (s.bitIdx + 1 ≠ 8 ∧ s.onPlayerHeader d = { s with flagsByte := f, bitIdx := s.bitIdx + 1 }) := by
  unfold State.onPlayerHeader
  dsimp only
  split
  · exact ⟨_, .inl ⟨‹_›, rfl⟩⟩
  · exact ⟨_, .inr ⟨‹_›, rfl⟩⟩

/-- R98: outbound data is drained when the session is initialised and there is some. -/
theorem State.ready_of_branch_outboundDrain {s : State} (h : s.branch = .outboundDrain) :
    s.isInitialized = true ∧ s.hasOutboundData = true := by
  unfold State.branch at h
  split at h
  · cases h
  · split at h
    · cases h
    · split at h
      · simp_all
      · cases h

theorem State.edgeDecide_cases (s : State) :
    s.edgeDecide = s.runInitialization.frameReset ∨
      s.edgeDecide = { s with msg := zeroBuf, state := .playerSending, bitIdx := 0 } ∨
      ((s.isInitialized = true ∧ s.hasOutboundData = true) ∧
        s.edgeDecide = { s with state := .remoteSending, bitIdx := 0 }) ∨
      s.edgeDecide = s.frameReset := by
  unfold State.edgeDecide
  split
  · exact .inl rfl
  · exact .inr (.inl rfl)
  · exact .inr (.inr (.inl ⟨State.ready_of_branch_outboundDrain ‹_›, rfl⟩))
  · exact .inr (.inr (.inr rfl))

theorem State.onRemoteSending_cases (s : State) :
    ∃ bits, (s.bitIdx + 1 = 88 ∧ s.onRemoteSending =
        State.frameReset { s with tx := bits, out := zeroBuf, outCursor := 0, hasOutboundData := false }) ∨
      (s.bitIdx + 1 ≠ 88 ∧ s.onRemoteSending = { s with tx := bits, bitIdx := s.bitIdx + 1 }) := by
  unfold State.onRemoteSending
  dsimp only
  split
  · exact ⟨_, .inl ⟨‹_›, rfl⟩⟩
  · exact ⟨_, .inr ⟨‹_›, rfl⟩⟩

theorem State.onPlayerSending_cases (s : State) (d : Nat) :
    ∃ b, (s.bitIdx + 1 = 88 ∧ s.onPlayerSending d = (State.enqueueCompleted
        { s with msg := orBit s.msg s.bitIdx b, bitIdx := s.bitIdx + 1 }).frameReset) ∨
      (s.bitIdx + 1 ≠ 88 ∧
        s.onPlayerSending d = { s with msg := orBit s.msg s.bitIdx b, bitIdx := s.bitIdx + 1 }) := by
  unfold State.onPlayerSending
  dsimp only
  split
  · exact ⟨_, .inl ⟨‹_›, rfl⟩⟩
  · exact ⟨_, .inr ⟨‹_›, rfl⟩⟩

/-- A pulse is noise, or begins a frame, or goes to the handler of the state (R253, R255, R265). -/
theorem State.onPulse_cases (s : State) (d : Nat) :
    s.onPulse d = s ∨ s.onPulse d = { s with state := .beforeSync, bitIdx := 0 } ∨
      (s.state = .awaitingMessage ∧ s.onPulse d = s.onAwaiting d) ∨
      (s.state = .beforeSync ∧ s.onPulse d = s.onBeforeSync d) ∨
      (s.state = .inRemoteHeader ∧ s.onPulse d = s.onRemoteHeader) ∨
      (s.state = .inPlayerHeader ∧ s.onPulse d = s.onPlayerHeader d) ∨
      (s.state = .playerSending ∧ s.onPulse d = s.onPlayerSending d) ∨
      (s.state = .remoteSending ∧ s.onPulse d = s.onRemoteSending) := by
  unfold State.onPulse
  split
  · exact .inl rfl
  · split
    · exact .inr (.inl rfl)
    · cases s.state <;> simp

/-- The next edge closes a pulse or begins one (R251, R252). -/
theorem State.lineEdge_cases (s : State) (dt : Nat) :
    (s.lineHigh = false ∧ s.lineEdge dt = State.onPulse (s.usNow + dt - s.tLast)
        { s with usNow := s.usNow + dt, lineHigh := true, tLast := s.usNow + dt }) ∨
      (s.lineHigh = true ∧
        s.lineEdge dt = { s with usNow := s.usNow + dt, lineHigh := false, tLast := s.usNow + dt }) := by
  unfold State.lineEdge State.onEdge
  cases s.lineHigh
  · exact .inl ⟨rfl, rfl⟩
  · exact .inr ⟨rfl, rfl⟩

/-- A framing error ends the frame, and in the edge-driven variant nothing else of the main context's. -/
theorem State.raiseError_framing_edge {s : State} {e : ErrorClass} (he : e.isFraming)
    (hv : s.cfg.variant = .edgeDriven) : s.raiseError e = s.frameReset ∨ s.raiseError e = s.sessionReset := by
  obtain rfl | rfl := he
  · exact .inl (s.raiseError_timing_edge hv)
  · exact .inr (s.raiseError_reset_edge hv)

end Sys2Proof.Machine

/-! PROOF. Ownership (R46): what the interrupt context and the main context write, and who writes `checksumError` (R32). -/

namespace Sys2Proof.Machine

/-! ## The interrupt context's writes (R46) -/

/-- What belongs to the main context: the state with a fixed value in every field that the interrupt context writes, the
shared ones, its inputs and its outputs among them. Two states with one `mainPart` agree in every other field. -/
def State.mainPart (s : State) : State :=
  { s with
    state := .awaitingMessage, bitIdx := 0, flagsByte := 0, tLast := 0, isInitialized := false, isReadyForText := false,
    hasOutboundData := false, msg := zeroBuf, cmq := Vector.replicate 10 zeroBuf, cmqLen := 0, out := zeroBuf,
    outCursor := 0, usNow := 0, lineHigh := true, edges := [], tx := [], diags := [] }

/-- From `s` to `t` only the interrupt context wrote, and to the shared state only as R46 lets it. -/
structure State.InterruptWrites (s t : State) : Prop where
  mainPart_eq : t.mainPart = s.mainPart
  cmqLen_le : s.cmqLen ≤ t.cmqLen
  outbound : t.hasOutboundData = true → s.hasOutboundData = true

theorem State.InterruptWrites.refl (s : State) : s.InterruptWrites s := ⟨rfl, le_rfl, id⟩

theorem State.InterruptWrites.trans {s t u : State} (h : s.InterruptWrites t) (h' : t.InterruptWrites u) :
    s.InterruptWrites u :=
  ⟨h'.mainPart_eq.trans h.mainPart_eq, h.cmqLen_le.trans h'.cmqLen_le, h.outbound ∘ h'.outbound⟩

/-- Whatever reads nothing that the interrupt context writes reads the same. -/
theorem State.InterruptWrites.keeps {α : Type} {s t : State} (h : s.InterruptWrites t) (read : State → α)
    (own : ∀ r : State, read r.mainPart = read r := by intro; rfl) : read t = read s := by
  rw [← own t, h.mainPart_eq, own s]

theorem State.interruptWrites_frameReset (s : State) : s.InterruptWrites s.frameReset := ⟨rfl, le_rfl, id⟩

theorem State.interruptWrites_framingError {s : State} {e : ErrorClass} (he : e.isFraming)
    (hv : s.cfg.variant = .edgeDriven) : s.InterruptWrites (s.raiseError e) := by
  obtain h | h := State.raiseError_framing_edge he hv
  · rw [h]; exact s.interruptWrites_frameReset
  · rw [h]; exact ⟨rfl, le_rfl, nofun⟩

theorem State.interruptWrites_edgeDecide (s : State) : s.InterruptWrites s.edgeDecide := by
  obtain h | h | ⟨-, h⟩ | h := s.edgeDecide_cases
  all_goals rw [h]; exact ⟨rfl, le_rfl, id⟩

theorem State.interruptWrites_onRemoteHeader (s : State) : s.InterruptWrites s.onRemoteHeader := by
  obtain ⟨_, ⟨-, h⟩ | ⟨-, h⟩⟩ := s.onRemoteHeader_cases
  all_goals rw [h]; exact ⟨rfl, le_rfl, id⟩

theorem State.interruptWrites_onPlayerHeader (s : State) (d : Nat) : s.InterruptWrites (s.onPlayerHeader d) := by
  obtain ⟨f, ⟨-, h⟩ | ⟨-, h⟩⟩ := s.onPlayerHeader_cases d
  · rw [h]
    have bitStored : s.InterruptWrites { s with flagsByte := f, bitIdx := s.bitIdx + 1 } := ⟨rfl, le_rfl, id⟩
    exact bitStored.trans (State.interruptWrites_edgeDecide _)
  · rw [h]; exact ⟨rfl, le_rfl, id⟩

theorem State.interruptWrites_onRemoteSending (s : State) : s.InterruptWrites s.onRemoteSending := by
  obtain ⟨_, ⟨-, h⟩ | ⟨-, h⟩⟩ := s.onRemoteSending_cases
  · rw [h]; exact ⟨rfl, le_rfl, nofun⟩
  · rw [h]; exact ⟨rfl, le_rfl, id⟩

theorem State.interruptWrites_enqueueCompleted (s : State) : s.InterruptWrites s.enqueueCompleted := by
  obtain ⟨-, h⟩ | ⟨-, h⟩ := s.enqueueCompleted_cases
  · rw [h]; exact ⟨rfl, Nat.le_succ _, id⟩
  · rw [h]; exact ⟨rfl, le_rfl, id⟩

theorem State.interruptWrites_onPlayerSending (s : State) (d : Nat) : s.InterruptWrites (s.onPlayerSending d) := by
  obtain ⟨b, ⟨-, h⟩ | ⟨-, h⟩⟩ := s.onPlayerSending_cases d
  · rw [h]
    have bitStored : s.InterruptWrites { s with msg := orBit s.msg s.bitIdx b, bitIdx := s.bitIdx + 1 } :=
      ⟨rfl, le_rfl, id⟩
    exact (bitStored.trans (State.interruptWrites_enqueueCompleted _)).trans (State.interruptWrites_frameReset _)
  · rw [h]; exact ⟨rfl, le_rfl, id⟩

theorem State.interruptWrites_onPulse {s : State} (d : Nat) (hv : s.cfg.variant = .edgeDriven) :
    s.InterruptWrites (s.onPulse d) := by
  obtain h | h | ⟨-, h⟩ | ⟨-, h⟩ | ⟨-, h⟩ | ⟨-, h⟩ | ⟨-, h⟩ | ⟨-, h⟩ := s.onPulse_cases d
  all_goals rw [h]
  · exact .refl s
  · exact ⟨rfl, le_rfl, id⟩
  · obtain ⟨e, he, h⟩ := s.onAwaiting_cases d
    rw [h]; exact State.interruptWrites_framingError he hv
  · obtain h | h := s.onBeforeSync_cases d
    · rw [h]; exact ⟨rfl, le_rfl, id⟩
    · rw [h]; exact State.interruptWrites_framingError (.inl rfl) hv
  · exact s.interruptWrites_onRemoteHeader
  · exact s.interruptWrites_onPlayerHeader d
  · exact s.interruptWrites_onPlayerSending d
  · exact s.interruptWrites_onRemoteSending

theorem State.interruptWrites_interruptTurn (s : State) : s.InterruptWrites s.interruptTurn := by
  obtain ⟨dt, es, hv, -, -, h⟩ | ⟨-, h⟩ := s.interruptTurn_cases
  · rw [h]
    obtain ⟨-, h⟩ | ⟨-, h⟩ := State.lineEdge_cases { s with edges := es } dt
    · rw [h]
      have edgeTimed : s.InterruptWrites
          { s with edges := es, usNow := s.usNow + dt, lineHigh := true, tLast := s.usNow + dt } := ⟨rfl, le_rfl, id⟩
      exact edgeTimed.trans (State.interruptWrites_onPulse _ hv)
    · rw [h]; exact ⟨rfl, le_rfl, id⟩
  · rw [h]; exact .refl s

/-- Settles O55: an interrupt turn is an edge, and an edge writes what is the interrupt context's. -/
theorem interruptContextKeepsOutOfMainState : Obligations.InterruptContextKeepsOutOfMainState := by
  unfold Obligations.InterruptContextKeepsOutOfMainState
  intro r s t sees h
  rw [State.step_of_interruptSees sees] at h
  obtain rfl := Host.Outcome.next.inj h
  have writes := s.interruptWrites_interruptTurn
  exact ⟨fun a => writes.keeps (State.peek · .lcd a), writes.keeps State.lcdOff, writes.keeps State.evq,
    writes.keeps State.evCount, writes.keeps State.checksumError, writes.keeps State.csum, writes.keeps State.cursor,
    writes.keeps State.cmqHead, writes.cmqLen_le, writes.outbound, writes.keeps State.activity, writes.keeps State.src,
    writes.keeps State.readIdx, writes.keeps State.draining, writes.keeps State.termSeen, writes.keeps State.overrun,
    writes.keeps State.cmds, writes.keeps State.results⟩

/-! ## The main context's writes (R46) -/

/-- What belongs to the interrupt context, and the configuration: the state with a fixed value in every field that the
main context writes, edge-driven. -/
def State.framerPart (s : State) : State :=
  { s with
    csum := 0, cursor := 0, hasOutboundData := false, checksumError := false, cmqHead := 0, cmqLen := 0, out := zeroBuf,
    outCursor := 0, lcd := Vector.replicate 64 0, lcdOff := 0, evq := Vector.replicate 10 .none, evCount := 0,
    edgeEnabled := false, activity := .idle, src := .bus, readIdx := 0, draining := false, termSeen := false,
    overrun := false, pulses := [], cmds := [], diags := [], results := [], freeIdx := 0 }

/-- From `s` to `t` only the main context wrote, and to the shared state only as R46 lets it. -/
structure State.MainWrites (s t : State) : Prop where
  framerPart_eq : t.framerPart = s.framerPart
  cmqLen_le : t.cmqLen ≤ s.cmqLen
  outbound : s.hasOutboundData = true → t.hasOutboundData = true
  outCursor_le : s.outCursor ≤ t.outCursor

theorem State.MainWrites.refl (s : State) : s.MainWrites s := ⟨rfl, le_rfl, id, le_rfl⟩

theorem State.MainWrites.trans {s t u : State} (h : s.MainWrites t) (h' : t.MainWrites u) : s.MainWrites u :=
  ⟨h'.framerPart_eq.trans h.framerPart_eq, h'.cmqLen_le.trans h.cmqLen_le, h'.outbound ∘ h.outbound,
    h.outCursor_le.trans h'.outCursor_le⟩

/-- Whatever reads nothing that the main context writes reads the same. -/
theorem State.MainWrites.keeps {α : Type} {s t : State} (h : s.MainWrites t) (read : State → α)
    (own : ∀ r : State, read r.framerPart = read r := by intro; rfl) : read t = read s := by
  rw [← own t, h.framerPart_eq, own s]

theorem State.Handles.mainWrites {s t : State} (h : s.Handles t) : s.MainWrites t := by
  obtain ⟨⟨_, _, _, _, _, _, _, rfl⟩, cursor_le, outbound, -, -⟩ := h
  exact ⟨rfl, le_rfl, outbound, cursor_le⟩

theorem exec_mainWrites {i : Instr} {s t : State} (h : exec i s = .next t) : s.MainWrites t := by
  obtain ⟨-, rfl⟩ | ⟨s', ty, p, e, handled, rfl, -, -⟩ := exec_cases h
  · exact ⟨rfl, le_rfl, id, le_rfl⟩
  · obtain ⟨q, k, h⟩ := s'.packetDone_frame ty p e
    have done : s'.MainWrites (s'.packetDone ty p e) := by rw [h]; exact ⟨rfl, le_rfl, id, le_rfl⟩
    exact handled.mainWrites.trans done

theorem State.takeByte_mainWrites {s t : State} {b : Byte} (h : s.takeByte = some (b, t)) : s.MainWrites t := by
  obtain ⟨_, _, _, _, rfl⟩ := State.takeByte_frame h
  exact ⟨rfl, le_rfl, id, le_rfl⟩

theorem State.decodeStep_mainWrites {s t : State} (h : s.decodeStep = .next t) : s.MainWrites t := by
  obtain ⟨-, h⟩ | ⟨-, -, h | h⟩ := State.decodeStep_cases h
  · obtain ⟨b, s1, cs, v, rs, taken, rfl⟩ := State.checksumStep_cases h
    exact (State.takeByte_mainWrites taken).trans ⟨rfl, le_rfl, id, le_rfl⟩
  · obtain ⟨b, s1, taken, rfl⟩ := State.drainStep_cases h
    exact (State.takeByte_mainWrites taken).trans ⟨rfl, le_rfl, id, le_rfl⟩
  · obtain ⟨bs, s1, i, rest, fetched, -, done⟩ := State.packetStep_cases h
    have taken : s.MainWrites s1 := by
      obtain ⟨_, _, -, -, _, _, _, _, rfl⟩ := State.fetchPacket_frame fetched
      exact ⟨rfl, le_rfl, id, le_rfl⟩
    exact taken.trans (exec_mainWrites done)

theorem State.hostCommand_mainWrites {s t : State} {c : Command} (h : s.hostCommand c = .next t) :
    s.MainWrites t := by
  obtain h | rfl | rfl | ⟨-, rfl⟩ | ⟨-, rfl⟩ | rfl := State.hostCommand_cases h
  · exact h.mainWrites
  · obtain ⟨_, _, -, h⟩ := s.nextEvent_frame
    rw [h]; exact ⟨rfl, le_rfl, id, le_rfl⟩
  · exact ⟨rfl, le_rfl, id, le_rfl⟩
  · exact ⟨rfl, le_rfl, id, le_rfl⟩
  · obtain ⟨-, h⟩ | ⟨-, h⟩ := s.decodeNext_cases
    · rw [h]; exact ⟨rfl, le_rfl, id, le_rfl⟩
    · rw [h]; exact ⟨rfl, Nat.sub_le _ 1, id, le_rfl⟩
  · exact ⟨rfl, le_rfl, id, le_rfl⟩

/-- Outside the phases of a polled call. -/
theorem State.mainTurn_mainWrites {s t : State} (act : s.activity = .idle ∨ s.activity = .decoding)
    (h : s.mainTurn = .next t) : s.MainWrites t := by
  obtain ⟨a, -⟩ | ⟨a, -⟩ | ⟨a, -⟩ | ⟨a, -⟩ | ⟨-, h⟩ | ⟨-, rfl | ⟨c, cs, h⟩⟩ := State.mainTurn_cases h
  iterate 4 · simp [a] at act
  · exact State.decodeStep_mainWrites h
  · exact .refl _
  · have taken : s.MainWrites { s with cmds := cs } := ⟨rfl, le_rfl, id, le_rfl⟩
    exact taken.trans (State.hostCommand_mainWrites h)

/-- Settles O56: a host command and an iteration of the decode loop write what is the main context's. -/
theorem mainContextKeepsOutOfFramerState : Obligations.MainContextKeepsOutOfFramerState := by
  unfold Obligations.MainContextKeepsOutOfFramerState
  intro r s t _ sees act h
  rw [State.step_of_mainSees sees] at h
  have writes := State.mainTurn_mainWrites act h
  exact ⟨writes.keeps State.state, writes.keeps State.bitIdx, writes.keeps State.flagsByte, writes.keeps State.tLast,
    fun a => writes.keeps (State.peek · .msg a), writes.keeps State.isInitialized, writes.keeps State.isReadyForText,
    fun n a => writes.keeps (State.peek · (.cmq n) a), writes.cmqLen_le, writes.outbound, writes.outCursor_le,
    writes.keeps State.tx, writes.keeps State.edges⟩

/-! ## The checksum flag (R32, R217) -/

theorem State.raiseError_framing_checksumError (s : State) {e : ErrorClass} (he : e.isFraming) :
    (s.raiseError e).checksumError = s.checksumError := by
  obtain rfl | rfl := he
  all_goals
    unfold State.raiseError
    dsimp only
    split
    all_goals rfl

theorem State.Handles.checksumError_eq {s t : State} (h : s.Handles t) : t.checksumError = s.checksumError := by
  obtain ⟨⟨_, _, _, _, _, _, _, rfl⟩, -, -, -, -⟩ := h
  rfl

theorem exec_checksumError {i : Instr} {s t : State} (h : exec i s = .next t) :
    t.checksumError = s.checksumError := by
  obtain ⟨-, rfl⟩ | ⟨s', ty, p, e, handled, rfl, -, -⟩ := exec_cases h
  · rfl
  · obtain ⟨q, k, h⟩ := s'.packetDone_frame ty p e
    rw [h]; exact handled.checksumError_eq

theorem State.hostCommand_checksumError {s t : State} {c : Command} (h : s.hostCommand c = .next t) :
    t.checksumError = s.checksumError := by
  obtain h | rfl | rfl | ⟨-, rfl⟩ | ⟨-, rfl⟩ | rfl := State.hostCommand_cases h
  · exact h.checksumError_eq
  · obtain ⟨_, _, -, h⟩ := s.nextEvent_frame
    rw [h]
  · rfl
  · rfl
  · obtain ⟨-, h⟩ | ⟨-, h⟩ := s.decodeNext_cases
    all_goals rw [h]; simp
  · rfl

theorem State.polledBranch_checksumError (s : State) : s.polledBranch.checksumError = s.checksumError := by
  obtain h | h | h | h := s.polledBranch_cases
  all_goals exact (congrArg State.checksumError h).trans rfl

/-- A step of the loop keeps the flag, or it is the one that ends the decode. -/
theorem State.decodeStep_checksumError {s t : State} (h : s.decodeStep = .next t) :
    t.checksumError = s.checksumError ∨ ((s.termSeen = true ∨ 10 ≤ s.cursor) ∧ t.activity = .idle) := by
  obtain ⟨ended, h⟩ | ⟨-, -, h | h⟩ := State.decodeStep_cases h
  · obtain ⟨b, s1, cs, v, rs, -, rfl⟩ := State.checksumStep_cases h
    exact .inr ⟨ended, rfl⟩
  · obtain ⟨b, s1, taken, rfl⟩ := State.drainStep_cases h
    obtain ⟨_, _, _, _, rfl⟩ := State.takeByte_frame taken
    exact .inl rfl
  · obtain ⟨bs, s1, i, rest, fetched, -, done⟩ := State.packetStep_cases h
    obtain ⟨_, _, -, -, _, _, _, _, hs1⟩ := State.fetchPacket_frame fetched
    exact .inl (by rw [exec_checksumError done, hs1])

theorem State.mainTurn_checksumError {s t : State} (h : s.mainTurn = .next t) :
    t.checksumError = s.checksumError ∨
      (s.activity = .decoding ∧ (s.termSeen = true ∨ 10 ≤ s.cursor) ∧ t.activity = .idle) := by
  obtain ⟨-, h⟩ | ⟨-, h⟩ | ⟨-, rfl⟩ | ⟨-, h⟩ | ⟨act, h⟩ | ⟨-, rfl | ⟨c, cs, h⟩⟩ := State.mainTurn_cases h
  · obtain ⟨ps, rfl | ⟨e, he, rfl⟩⟩ := State.polledPresync_cases h
    · exact .inl rfl
    · exact .inl (State.raiseError_framing_checksumError _ he)
  · obtain ⟨ps, rfl | ⟨e, he, rfl⟩⟩ := State.polledSync_cases h
    · exact .inl rfl
    · exact .inl (State.raiseError_framing_checksumError _ he)
  · exact .inl rfl
  · obtain ⟨f, ps, rfl⟩ := State.polledPlayerHeader_cases h
    exact .inl (State.polledBranch_checksumError _)
  · exact (State.decodeStep_checksumError h).imp_right fun ⟨ended, idle⟩ => ⟨act, ended, idle⟩
  · exact .inl rfl
  · have kept := State.hostCommand_checksumError h
    exact .inl kept

/-- Settles O57, by the agent whose turn it is: the one that ends a decode is among the main context's. -/
theorem checksumFlagChangesOnlyAtDecodeEnd : Obligations.ChecksumFlagChangesOnlyAtDecodeEnd := by
  unfold Obligations.ChecksumFlagChangesOnlyAtDecodeEnd
  intro s t h changed
  obtain ⟨ts, hs, -⟩ | ⟨ts, h⟩ | ⟨ts, rfl⟩ := step_cases h
  · exact .inl ⟨ts, hs⟩
  · exact .inr ((State.mainTurn_checksumError h).resolve_left changed)
  · exact absurd ((State.interruptWrites_interruptTurn _).keeps State.checksumError) changed

end Sys2Proof.Machine

/-! PROOF. The invariant of Safety.lean: it holds at reset, every operation keeps it, so every step does. -/

namespace Sys2Proof.Machine

/-! ## What keeps the invariant: the shared operations

`{ h with … }` names the clauses that an operation touches; every other clause is the one that held before. -/

theorem State.Inv.filled {s : State} (h : s.Inv) : FilledTo s.out s.outCursor := ⟨h.outCursor_le, h.outTail⟩

/-- A power-on reset keeps the configuration and the timer, of which the invariant asks nothing (R370). -/
theorem State.inv_of_reset (p : Params) (flags sum : Byte) (last now cur : Nat) (msg : Vector Byte 11)
    (cmq : Vector (Vector Byte 11) 10) (lcd : Vector Byte 64) (evq : Vector RemoteEvent 10) :
    State.Inv { State.reset with
      cfg := p, flagsByte := flags, csum := sum, tLast := last, usNow := now, cursor := cur, msg := msg, cmq := cmq,
      lcd := lcd, evq := evq } where
  idleBitIdx _ := rfl
  headerBitIdx _ := Nat.zero_le 7
  dataBitIdx _ := Nat.zero_le 87
  remoteSendingReady := nofun
  polledState _ := rfl
  sessionFlags := rfl
  cmqHead_lt := Nat.zero_lt_succ 9
  cmqLen_le := Nat.zero_le 10
  outCursor_le := Nat.zero_le 88
  outTail := filledTo_zeroBuf.2
  msgTail := nofun
  lcdOff_le := Nat.zero_le 63
  cursor_le := nofun
  eventBytes := nofun
  evCount_le := Nat.zero_le 5
  events := nofun
  tLast_le := nofun
  readIdx_eq := nofun
  decodeSource := nofun
  overrun_iff := nofun
  polledPhase busy := absurd rfl busy

/-- Settles O51: no clause reads one of the values. -/
theorem resetMeetsTheInvariant : Obligations.ResetMeetsTheInvariant :=
  fun flags sum last now cur msg cmq lcd evq =>
    State.inv_of_reset Config.built flags sum last now cur msg cmq lcd evq

theorem State.Inv.powerOnReset (s : State) : s.powerOnReset.Inv :=
  { State.inv_of_reset s.cfg 0 0 0 s.usNow 0 State.reset.msg State.reset.cmq State.reset.lcd State.reset.evq with }

/-- R266, R372: the framer at rest. -/
theorem State.Inv.frameReset {s : State} (h : s.Inv) : s.frameReset.Inv :=
  { h with
    idleBitIdx := fun _ => rfl
    headerBitIdx := fun _ => Nat.zero_le 7
    dataBitIdx := fun _ => Nat.zero_le 87
    remoteSendingReady := nofun
    polledState := fun _ => rfl
    msgTail := nofun }

/-- R373. -/
theorem State.Inv.sessionReset {s : State} (h : s.Inv) : s.sessionReset.Inv :=
  { h.frameReset with
    remoteSendingReady := nofun
    sessionFlags := rfl
    outCursor_le := Nat.zero_le 88
    outTail := filledTo_zeroBuf.2 }

/-- R374, C11. -/
theorem State.Inv.runInitialization {s : State} (h : s.Inv) : s.runInitialization.Inv :=
  { h with
    remoteSendingReady := fun hs => ⟨rfl, (h.remoteSendingReady hs).2⟩
    sessionFlags := rfl }

/-- The main context outside a decode: the clauses about a decode say nothing, whatever its bookkeeping holds. -/
theorem State.Inv.setActivity {s : State} (h : s.Inv) {a : Activity} (r : Nat) (o : Bool) (notDecoding : a ≠ .decoding)
    (phase : a ≠ .idle → s.cfg.variant = .polled) :
    State.Inv { s with activity := a, readIdx := r, overrun := o } :=
  { h with
    cursor_le := fun ha => absurd ha notDecoding
    eventBytes := fun ha => absurd ha notDecoding
    readIdx_eq := fun ha => absurd ha notDecoding
    decodeSource := fun ha => absurd ha notDecoding
    overrun_iff := fun ha => absurd ha notDecoding
    polledPhase := fun busy _ => phase busy }

theorem State.Inv.setIdle {s : State} (h : s.Inv) : State.Inv { s with activity := .idle } :=
  h.setActivity s.readIdx s.overrun nofun (absurd rfl)

/-- R332: after a framing error the machine is idle, in both variants. -/
theorem State.Inv.raiseError_framing {s : State} (h : s.Inv) {e : ErrorClass} (he : e.isFraming) :
    (s.raiseError e).Inv := by
  cases hv : s.cfg.variant with
  | polled =>
    obtain rfl | rfl := he
    · rw [s.raiseError_timing_polled hv]; exact h.setIdle
    · rw [s.raiseError_reset_polled hv]; exact h.sessionReset.setIdle
  | edgeDriven =>
    obtain e | e := State.raiseError_framing_edge he hv
    · rw [e]; exact h.frameReset
    · rw [e]; exact h.sessionReset

/-- R37, R62, R72: staging and storing text. -/
theorem State.Inv.handles {s t : State} (h : s.Inv) (handled : s.Handles t) : t.Inv := by
  have filled := handled.filled h.filled
  have lcdOff_le := handled.lcdOff_le h.lcdOff_le
  have outbound := handled.outbound
  obtain ⟨_, _, _, _, _, _, _, rfl⟩ := handled.frame
  exact
    { h with
      remoteSendingReady := fun hs => (h.remoteSendingReady hs).imp_right outbound
      outCursor_le := filled.1
      outTail := filled.2
      lcdOff_le := lcdOff_le }

/-- R212: a decode starts on the source of the variant. -/
theorem State.Inv.startDecode {s : State} (h : s.Inv) {src : ByteSource} (fits : (s.startDecode src).sourceFits) :
    (s.startDecode src).Inv :=
  { h with
    cursor_le := fun _ => Nat.zero_le 19
    eventBytes := fun _ => le_rfl
    evCount_le := Nat.zero_le 5
    events := nofun
    readIdx_eq := fun _ => rfl
    decodeSource := fun _ => fits
    overrun_iff := fun _ _ => ⟨nofun, nofun⟩
    polledPhase := fun _ other => absurd rfl other }

/-! ## The framer -/

/-- R266 (a) to (c): the last value that `bitIdx` takes in a state. -/
def FrameState.lastBit : FrameState → Nat
  | .awaitingMessage | .beforeSync => 0
  | .inRemoteHeader | .inPlayerHeader => 7
  | .playerSending | .remoteSending => 87

theorem State.Inv.bitIdx_le {s : State} (h : s.Inv) : s.bitIdx ≤ s.state.lastBit := by
  cases hs : s.state with
  | awaitingMessage => exact (h.idleBitIdx (.inl hs)).le
  | beforeSync => exact (h.idleBitIdx (.inr hs)).le
  | inRemoteHeader => exact h.headerBitIdx (.inl hs)
  | inPlayerHeader => exact h.headerBitIdx (.inr hs)
  | playerSending => exact h.dataBitIdx (.inl hs)
  | remoteSending => exact h.dataBitIdx (.inr hs)

/-- Edge-driven, the framer goes to bit `b` of state `p`. -/
theorem State.Inv.setFrame {s : State} (h : s.Inv) (hv : s.cfg.variant = .edgeDriven) {p : FrameState} {b : Nat}
    {m : Vector Byte 11} (bound : b ≤ p.lastBit)
    (ready : p = .remoteSending → s.isInitialized = true ∧ s.hasOutboundData = true)
    (filled : p = .playerSending → FilledTo m b) : State.Inv { s with state := p, bitIdx := b, msg := m } :=
  { h with
    idleBitIdx := by rintro (rfl | rfl) <;> exact Nat.le_zero.mp bound
    headerBitIdx := by rintro (rfl | rfl) <;> exact bound
    dataBitIdx := by rintro (rfl | rfl) <;> exact bound
    remoteSendingReady := ready
    polledState := by simp [hv]
    msgTail := fun hp => (filled hp).2 }

/-- One more bit in the same state. -/
theorem State.Inv.nextBit {s : State} (h : s.Inv) (hv : s.cfg.variant = .edgeDriven) {m : Vector Byte 11}
    (more : s.bitIdx + 1 ≠ s.state.lastBit + 1) (filled : s.state = .playerSending → FilledTo m (s.bitIdx + 1)) :
    State.Inv { s with bitIdx := s.bitIdx + 1, msg := m } :=
  h.setFrame hv (h.bitIdx_le.lt_of_ne fun last => more (congrArg Nat.succ last)) h.remoteSendingReady filled

theorem State.Inv.onAwaiting {s : State} (h : s.Inv) (d : Nat) : (s.onAwaiting d).Inv := by
  obtain ⟨_, he, e⟩ := s.onAwaiting_cases d
  rw [e]; exact h.raiseError_framing he

theorem State.Inv.onBeforeSync {s : State} (h : s.Inv) (hv : s.cfg.variant = .edgeDriven) (d : Nat) :
    (s.onBeforeSync d).Inv := by
  obtain e | e := s.onBeforeSync_cases d
  · rw [e]; exact h.setFrame hv (Nat.zero_le 7) nofun nofun
  · rw [e]; exact h.raiseError_framing (.inl rfl)

theorem State.Inv.onRemoteHeader {s : State} (h : s.Inv) (hv : s.cfg.variant = .edgeDriven)
    (hs : s.state = .inRemoteHeader) : s.onRemoteHeader.Inv := by
  obtain ⟨_, ⟨-, e⟩ | ⟨more, e⟩⟩ := s.onRemoteHeader_cases
  · rw [e]
    exact { h.setFrame (p := .inPlayerHeader) (m := s.msg) hv (Nat.zero_le 7) nofun nofun with }
  · rw [e]
    exact { h.nextBit (m := s.msg) hv (by rw [hs]; exact more) (by simp [hs]) with }

/-- R260: the decision leaves the header, whatever its eight bits were. -/
theorem State.Inv.edgeDecide {s : State} (h : s.Inv) (hv : s.cfg.variant = .edgeDriven) (f : Byte) (n : Nat) :
    (State.edgeDecide { s with flagsByte := f, bitIdx := n }).Inv := by
  obtain e | e | ⟨ready, e⟩ | e := State.edgeDecide_cases { s with flagsByte := f, bitIdx := n }
  · rw [e]; exact { h.runInitialization.frameReset with }
  · rw [e]
    exact { h.setFrame (p := .playerSending) hv (Nat.zero_le 87) nofun fun _ => filledTo_zeroBuf with }
  · rw [e]
    exact { h.setFrame (p := .remoteSending) (m := s.msg) hv (Nat.zero_le 87) (fun _ => ready) nofun with }
  · rw [e]; exact { h.frameReset with }

theorem State.Inv.onPlayerHeader {s : State} (h : s.Inv) (hv : s.cfg.variant = .edgeDriven)
    (hs : s.state = .inPlayerHeader) (d : Nat) : (s.onPlayerHeader d).Inv := by
  obtain ⟨f, ⟨-, e⟩ | ⟨more, e⟩⟩ := s.onPlayerHeader_cases d
  · rw [e]; exact h.edgeDecide hv f _
  · rw [e]
    exact { h.nextBit (m := s.msg) hv (by rw [hs]; exact more) (by simp [hs]) with }

theorem State.Inv.onRemoteSending {s : State} (h : s.Inv) (hv : s.cfg.variant = .edgeDriven)
    (hs : s.state = .remoteSending) : s.onRemoteSending.Inv := by
  obtain ⟨_, ⟨-, e⟩ | ⟨more, e⟩⟩ := s.onRemoteSending_cases
  · rw [e]
    exact
      { h.frameReset with
        remoteSendingReady := nofun
        outCursor_le := Nat.zero_le 88
        outTail := filledTo_zeroBuf.2 }
  · rw [e]
    exact { h.nextBit (m := s.msg) hv (by rw [hs]; exact more) (by simp [hs]) with }

/-- R263: the queue takes a message only while it has room. -/
theorem State.Inv.enqueueCompleted_frameReset {s : State} (h : s.Inv) (m : Vector Byte 11) (n : Nat) :
    (State.enqueueCompleted { s with msg := m, bitIdx := n }).frameReset.Inv := by
  obtain ⟨room, e⟩ | ⟨-, e⟩ := State.enqueueCompleted_cases { s with msg := m, bitIdx := n }
  · rw [e]; exact { h.frameReset with msgTail := nofun, cmqLen_le := room }
  · rw [e]; exact { h.frameReset with msgTail := nofun }

theorem State.Inv.onPlayerSending {s : State} (h : s.Inv) (hv : s.cfg.variant = .edgeDriven)
    (hs : s.state = .playerSending) (d : Nat) : (s.onPlayerSending d).Inv := by
  obtain ⟨b, ⟨-, e⟩ | ⟨more, e⟩⟩ := s.onPlayerSending_cases d
  · rw [e]; exact h.enqueueCompleted_frameReset _ _
  · rw [e]
    have last : s.bitIdx ≤ 87 := h.dataBitIdx (.inl hs)
    have received : FilledTo s.msg s.bitIdx := ⟨by omega, h.msgTail hs⟩
    exact h.nextBit hv (by rw [hs]; exact more) fun _ => received.orBit b (by omega)

theorem State.Inv.onPulse {s : State} (h : s.Inv) (hv : s.cfg.variant = .edgeDriven) (d : Nat) :
    (s.onPulse d).Inv := by
  obtain e | e | ⟨-, e⟩ | ⟨-, e⟩ | ⟨hs, e⟩ | ⟨hs, e⟩ | ⟨hs, e⟩ | ⟨hs, e⟩ := s.onPulse_cases d
  all_goals rw [e]
  · exact h
  · exact h.setFrame hv (Nat.zero_le 0) nofun nofun
  · exact h.onAwaiting d
  · exact h.onBeforeSync hv d
  · exact h.onRemoteHeader hv hs
  · exact h.onPlayerHeader hv hs d
  · exact h.onPlayerSending hv hs d
  · exact h.onRemoteSending hv hs

/-- R27, R348: a falling edge is remembered with the time it has. -/
theorem State.Inv.interruptTurn {s : State} (h : s.Inv) : s.interruptTurn.Inv := by
  obtain ⟨dt, es, hv, -, -, e⟩ | ⟨-, e⟩ := s.interruptTurn_cases
  · rw [e]
    obtain ⟨-, e⟩ | ⟨-, e⟩ := State.lineEdge_cases { s with edges := es } dt
    · rw [e]
      have edgeTimed : State.Inv
          { s with edges := es, usNow := s.usNow + dt, lineHigh := true, tLast := s.usNow + dt } :=
        { h with tLast_le := nofun }
      exact edgeTimed.onPulse hv _
    · rw [e]; exact { h with tLast_le := fun _ => le_rfl }
  · rw [e]; exact h

/-! ## The decode loop -/

/-- The longest packet has ten bytes (R105). -/
theorem length_encode_le (i : Instr) : (encode i).length ≤ 10 := by
  cases i <;> simp [encode]

theorem decodeP1_ok {ty : Byte} {mk : Byte → Instr} {p rest : List Byte} {i : Instr}
    (h : decodeP1 ty mk p = .ok i rest) : ∃ v, i = mk v := by
  unfold decodeP1 at h
  split at h
  · cases h; exact ⟨_, rfl⟩
  · cases h

theorem decodeP4_ok {ty : Byte} {p rest : List Byte} {i : Instr} (h : decodeP4 ty p = .ok i rest) :
    ∃ p0 p1 p2 p3, i = .track p0 p1 p2 p3 := by
  unfold decodeP4 at h
  split at h
  · cases h; exact ⟨_, _, _, _, rfl⟩
  · cases h

theorem decodeP9_ok {ty : Byte} {p rest : List Byte} {i : Instr} (h : decodeP9 ty p = .ok i rest) :
    ∃ seg unk c0 c1 c2 c3 c4 c5 c6, i = .lcd seg unk c0 c1 c2 c3 c4 c5 c6 := by
  unfold decodeP9 at h
  split at h
  · cases h; exact ⟨_, _, _, _, _, _, _, _, _, rfl⟩
  · cases h

/-- The decoder and the dispatch table agree on how many bytes a packet has (R112, R190). -/
theorem length_encode_of_decode {ty : Byte} {p rest : List Byte} {i : Instr} (h : decode (ty :: p) = .ok i rest) :
    (encode i).length = payloadBytes ty + 1 := by
  rw [decode] at h
  obtain ⟨rfl, h⟩ | ⟨h00, h⟩ := ite_eq_iff.mp h
  · cases h; rfl
  obtain ⟨rfl, h⟩ | ⟨h01, h⟩ := ite_eq_iff.mp h
  · obtain ⟨v, rfl⟩ := decodeP1_ok h; rfl
  obtain ⟨rfl, h⟩ | ⟨h08, h⟩ := ite_eq_iff.mp h
  · cases h; rfl
  obtain ⟨rfl, h⟩ | ⟨h40, h⟩ := ite_eq_iff.mp h
  · obtain ⟨v, rfl⟩ := decodeP1_ok h; rfl
  obtain ⟨rfl, h⟩ | ⟨h41, h⟩ := ite_eq_iff.mp h
  · obtain ⟨v, rfl⟩ := decodeP1_ok h; rfl
  obtain ⟨rfl, h⟩ | ⟨h42, h⟩ := ite_eq_iff.mp h
  · obtain ⟨v, rfl⟩ := decodeP1_ok h; rfl
  obtain ⟨rfl, h⟩ | ⟨h43, h⟩ := ite_eq_iff.mp h
  · obtain ⟨v, rfl⟩ := decodeP1_ok h; rfl
  obtain ⟨rfl, h⟩ | ⟨h46, h⟩ := ite_eq_iff.mp h
  · obtain ⟨v, rfl⟩ := decodeP1_ok h; rfl
  obtain ⟨rfl, h⟩ | ⟨h47, h⟩ := ite_eq_iff.mp h
  · obtain ⟨v, rfl⟩ := decodeP1_ok h; rfl
  obtain ⟨rfl, h⟩ | ⟨hA0, h⟩ := ite_eq_iff.mp h
  · obtain ⟨p0, p1, p2, p3, rfl⟩ := decodeP4_ok h; rfl
  obtain ⟨rfl, h⟩ | ⟨hC8, h⟩ := ite_eq_iff.mp h
  · obtain ⟨seg, unk, c0, c1, c2, c3, c4, c5, c6, rfl⟩ := decodeP9_ok h; rfl
  · have unknown : dispatchTable ty = .unknownType := by simp only [dispatchTable, *, if_false]
    cases h
    simp [encode, payloadBytes, unknown]

/-- The byte source is the variant's, and the overrun was reported iff a byte was asked for at index 11 or above (R74). -/
def State.SourceTracked (s : State) : Prop :=
  s.sourceFits ∧ (s.cfg.variant = .edgeDriven → (s.overrun = true ↔ 11 < s.readIdx))

theorem State.SourceTracked.takeByte {s t : State} {b : Byte} (h : s.SourceTracked) (taken : s.takeByte = some (b, t)) :
    t.SourceTracked := by
  obtain ⟨fits, tracked⟩ := h
  obtain ⟨hs, ps, -, rfl⟩ | ⟨m, hs, inside, rfl⟩ | ⟨m, hs, past, -, rfl⟩ := State.takeByte_cases taken
  · have polled : s.cfg.variant = .polled := by simpa [State.sourceFits, hs] using fits
    exact ⟨fits, fun edge => absurd (polled.symm.trans edge) nofun⟩
  · refine ⟨fits, fun edge => (tracked edge).trans ?_⟩
    have inside : s.readIdx < 11 := (Vector.getElem?_eq_some_iff.mp inside).1
    dsimp only
    omega
  · refine ⟨fits, fun _ => ?_⟩
    dsimp only
    simp only [true_iff]
    omega

theorem State.SourceTracked.takeBytes {n : Nat} {s t : State} {bs : List Byte} (h : s.SourceTracked)
    (taken : s.takeBytes n = some (bs, t)) : t.SourceTracked := by
  induction n generalizing s bs with
  | zero => cases taken; exact h
  | succ n ih =>
    rw [State.takeBytes] at taken
    split at taken
    · cases taken
    · rename_i b s1 hb
      split at taken
      · cases taken
      · rename_i bs' s2 hbs
        cases taken
        exact ih (h.takeByte hb) hbs

theorem State.SourceTracked.fetchPacket {s t : State} {bs : List Byte} (h : s.SourceTracked)
    (fetched : s.fetchPacket = some (bs, t)) : t.SourceTracked := by
  unfold State.fetchPacket at fetched
  split at fetched
  · cases fetched
  · rename_i b s1 hb
    split at fetched
    · cases fetched
    · rename_i bs' s2 hbs
      cases fetched
      exact (h.takeByte hb).takeBytes hbs

/-- In the middle of an iteration of the decode loop, `n` bytes taken and not yet counted: the invariant holds of the
state that counts them, and `cursor` is within the budget. -/
structure State.Fetched (n : Nat) (s : State) : Prop where
  inv : (s.advance n).Inv
  decoding : s.activity = .decoding
  noTerm : s.termSeen = false
  cursor_lt : s.cursor < 10
  eventBytes : 2 * s.evCount ≤ s.cursor

/-- The iteration begins by taking bytes. -/
theorem State.Inv.fetched {s : State} (h : s.Inv) (decoding : s.activity = .decoding) (noTerm : s.termSeen = false)
    (cursor_lt : s.cursor < 10) {n : Nat} (hn : n ≤ 10) {ps : List Nat} {fi : Nat} {ov : Bool} {ds : List Diag}
    (tracked : State.SourceTracked
      { s with pulses := ps, readIdx := s.readIdx + n, freeIdx := fi, overrun := ov, diags := ds }) :
    State.Fetched n { s with pulses := ps, readIdx := s.readIdx + n, freeIdx := fi, overrun := ov, diags := ds } where
  inv :=
    { h with
      cursor_le := fun _ => by simp only [State.advance_cursor]; omega
      eventBytes := fun ha => (h.eventBytes ha).trans (Nat.le_add_right _ n)
      readIdx_eq := fun ha => by
        have counted := h.readIdx_eq ha
        simp only [noTerm] at counted
        simp only [State.advance_readIdx, State.advance_cursor, State.advance_termSeen, noTerm, counted]
        rfl
      decodeSource := fun _ => tracked.1
      overrun_iff := fun _ => tracked.2 }
  decoding := decoding
  noTerm := noTerm
  cursor_lt := cursor_lt
  eventBytes := h.eventBytes decoding

theorem State.Handles.advance {s t : State} (h : s.Handles t) (n : Nat) : (s.advance n).Handles (t.advance n) := by
  obtain ⟨⟨_, _, _, _, _, _, _, rfl⟩, hc, hb, hf, hl⟩ := h
  exact ⟨⟨_, _, _, _, _, _, _, rfl⟩, hc, hb, hf, hl⟩

theorem State.Fetched.handles {n : Nat} {s t : State} (h : s.Fetched n) (handled : s.Handles t) : t.Fetched n := by
  have inv := h.inv.handles (handled.advance n)
  obtain ⟨_, _, _, _, _, _, _, rfl⟩ := handled.frame
  exact { h with inv := inv }

/-- R221: the event that is pushed took a packet of two bytes at least, and at most four came before it. -/
theorem State.Fetched.packetDone {s : State} {p : List Byte} (h : s.Fetched (1 + p.length)) (ty : Byte)
    {e : RemoteEvent} (he : e = .none ∨ 1 ≤ p.length ∧ e.queueable) : (s.packetDone ty p e).Inv := by
  have counted : State.Inv
      { s with csum := accumulate s.csum (ty :: p), cursor := s.cursor + (1 + p.length) } := { h.inv with }
  rw [State.packetDone_eq]
  obtain ⟨kept, -⟩ | ⟨pushed, -, stored⟩ := State.pushEvent_cases
    { s with csum := accumulate s.csum (ty :: p), cursor := s.cursor + (1 + p.length) } e
  · rw [kept]; exact counted
  · obtain ⟨hp, queueable⟩ := he.resolve_left pushed
    have before := h.eventBytes
    have budget := h.cursor_lt
    rw [stored]
    exact
      { counted with
        eventBytes := fun _ => by dsimp only; omega
        evCount_le := by dsimp only; omega
        events := fun k e' hk he' => by
          dsimp only at hk he'
          rw [Vector.getElem?_setIfInBounds] at he'
          split at he'
          · split at he'
            · cases he'; exact queueable
            · cases he'
          · exact h.inv.events k e' (by dsimp only [State.advance]; omega) he' }

/-- R214: the terminator is the one byte that `cursor` does not count. -/
theorem State.Fetched.terminate {s : State} (h : s.Fetched 1) (c : Byte) :
    State.Inv { s with csum := c, termSeen := true } :=
  { h.inv with
    cursor_le := fun _ => by have := h.cursor_lt; dsimp only; omega
    eventBytes := fun _ => h.eventBytes
    readIdx_eq := fun ha => by simpa [h.noTerm] using h.inv.readIdx_eq ha }

theorem State.Fetched.exec {n : Nat} {s t : State} {i : Instr} (h : s.Fetched n) (hn : (encode i).length = n)
    (done : exec i s = .next t) : t.Inv := by
  subst hn
  obtain ⟨rfl, rfl⟩ | ⟨s', ty, p, e, handled, rfl, length, event⟩ := exec_cases done
  · exact h.terminate _
  · rw [length] at h
    exact (h.handles handled).packetDone ty (event.imp_right fun ⟨hp, he⟩ => ⟨hp, he h.inv.lcdOff_le⟩)

theorem State.Inv.sourceTracked {s : State} (h : s.Inv) (decoding : s.activity = .decoding) : s.SourceTracked :=
  ⟨h.decodeSource decoding, h.overrun_iff decoding⟩

theorem State.Inv.packetStep {s t : State} (h : s.Inv) (decoding : s.activity = .decoding)
    (noTerm : s.termSeen = false) (cursor_lt : s.cursor < 10) (done : s.packetStep = .next t) : t.Inv := by
  obtain ⟨bs, s1, i, rest, fetched, decoded, done⟩ := State.packetStep_cases done
  have tracked := (h.sourceTracked decoding).fetchPacket fetched
  obtain ⟨ty, p, rfl, hp, ps, fi, ov, ds, rfl⟩ := State.fetchPacket_frame fetched
  have length : (encode i).length = p.length + 1 := by rw [length_encode_of_decode decoded, hp]
  have short : p.length + 1 ≤ 10 := length ▸ length_encode_le i
  exact (h.fetched decoding noTerm cursor_lt short tracked).exec length done

theorem State.Inv.drainStep {s t : State} (h : s.Inv) (decoding : s.activity = .decoding)
    (noTerm : s.termSeen = false) (cursor_lt : s.cursor < 10) (done : s.drainStep = .next t) : t.Inv := by
  obtain ⟨b, s1, taken, rfl⟩ := State.drainStep_cases done
  have tracked := (h.sourceTracked decoding).takeByte taken
  obtain ⟨ps, fi, ov, ds, rfl⟩ := State.takeByte_frame taken
  exact { (h.fetched decoding noTerm cursor_lt (by omega) tracked).inv with }

/-- R217: the checksum byte is not counted, but the decode is over. -/
theorem State.Inv.checksumStep {s t : State} (h : s.Inv) (done : s.checksumStep = .next t) : t.Inv := by
  obtain ⟨b, s1, cs, v, rs, taken, rfl⟩ := State.checksumStep_cases done
  obtain ⟨ps, fi, ov, ds, rfl⟩ := State.takeByte_frame taken
  exact { h.setActivity (a := .idle) (s.readIdx + 1) ov nofun (absurd rfl) with }

theorem State.Inv.decodeStep {s t : State} (h : s.Inv) (decoding : s.activity = .decoding)
    (done : s.decodeStep = .next t) : t.Inv := by
  obtain ⟨-, done⟩ | ⟨noTerm, cursor_lt, done | done⟩ := State.decodeStep_cases done
  · exact h.checksumStep done
  · exact h.drainStep decoding noTerm cursor_lt done
  · exact h.packetStep decoding noTerm cursor_lt done

/-! ## The polled call and the host commands -/

theorem State.Inv.polledPresync {s t : State} (h : s.Inv) (polled : s.cfg.variant = .polled)
    (done : s.polledPresync = .next t) : t.Inv := by
  obtain ⟨ps, rfl | ⟨e, he, rfl⟩⟩ := State.polledPresync_cases done
  · exact { h.setActivity (a := .awaitSync) s.readIdx s.overrun nofun fun _ => polled with }
  · have taken : State.Inv { s with pulses := ps } := { h with }
    exact taken.raiseError_framing he

theorem State.Inv.polledSync {s t : State} (h : s.Inv) (polled : s.cfg.variant = .polled)
    (done : s.polledSync = .next t) : t.Inv := by
  obtain ⟨ps, rfl | ⟨e, he, rfl⟩⟩ := State.polledSync_cases done
  · exact { h.setActivity (a := .remoteHeader) s.readIdx s.overrun nofun fun _ => polled with }
  · have taken : State.Inv { s with pulses := ps } := { h with }
    exact taken.raiseError_framing he

theorem State.Inv.polledRemoteHeader {s : State} (h : s.Inv) (polled : s.cfg.variant = .polled) :
    s.polledRemoteHeader.Inv :=
  { h.setActivity (a := .playerHeader) s.readIdx s.overrun nofun fun _ => polled with }

/-- Polled, nothing is being sent by the framer, so the drain may empty the Outbound Buffer (R29, R296). -/
theorem State.Inv.drainOutbound {s : State} (h : s.Inv) (polled : s.cfg.variant = .polled) : s.drainOutbound.Inv :=
  { h with
    remoteSendingReady := fun sending => absurd ((h.polledState polled).symm.trans sending) nofun
    outCursor_le := Nat.zero_le 88
    outTail := filledTo_zeroBuf.2 }

theorem State.Inv.polledBranch {s : State} (h : s.Inv) (polled : s.cfg.variant = .polled) : s.polledBranch.Inv := by
  obtain e | e | e | e := s.polledBranch_cases
  · rw [e]; exact h.runInitialization.setIdle
  · rw [e]; exact h.startDecode polled
  · rw [e]; exact (h.drainOutbound polled).setIdle
  · rw [e]; exact h.setIdle

theorem State.Inv.nextEvent {s : State} (h : s.Inv) : s.nextEvent.Inv := by
  obtain ⟨k, rs, fewer, e⟩ := s.nextEvent_frame
  rw [e]
  exact
    { h with
      eventBytes := fun ha => (Nat.mul_le_mul_left 2 fewer).trans (h.eventBytes ha)
      evCount_le := fewer.trans h.evCount_le
      events := fun j ev hj => h.events j ev (hj.trans_le fewer) }

theorem State.Inv.cmqPop {s : State} (h : s.Inv) : s.cmqPop.Inv :=
  { h with
    cmqHead_lt := Nat.mod_lt _ (by decide)
    cmqLen_le := (Nat.sub_le _ 1).trans h.cmqLen_le }

theorem State.Inv.decodeNext {s : State} (h : s.Inv) (edge : s.cfg.variant = .edgeDriven) : s.decodeNext.Inv := by
  obtain ⟨-, e⟩ | ⟨-, e⟩ := s.decodeNext_cases
  · rw [e]; exact { h with }
  · rw [e]; exact h.cmqPop.startDecode edge

theorem State.Inv.hostCommand {s t : State} {c : Command} (h : s.Inv) (done : s.hostCommand c = .next t) : t.Inv := by
  obtain handled | rfl | rfl | ⟨polled, rfl⟩ | ⟨edge, rfl⟩ | rfl := State.hostCommand_cases done
  · exact h.handles handled
  · exact h.nextEvent
  · exact { h with }
  · exact { h.setActivity (a := .awaitPresync) s.readIdx s.overrun nofun fun _ => polled with }
  · exact h.decodeNext edge
  · exact { h with }

theorem State.Inv.mainTurn {s t : State} (h : s.Inv) (done : s.mainTurn = .next t) : t.Inv := by
  have polled (a : Activity) (ha : s.activity = a) (busy : a ≠ .idle) (call : a ≠ .decoding) :
      s.cfg.variant = .polled := h.polledPhase (ha ▸ busy) (ha ▸ call)
  obtain ⟨ha, done⟩ | ⟨ha, done⟩ | ⟨ha, rfl⟩ | ⟨ha, done⟩ | ⟨ha, done⟩ | ⟨-, rfl | ⟨c, cs, done⟩⟩ :=
    State.mainTurn_cases done
  · exact h.polledPresync (polled _ ha nofun nofun) done
  · exact h.polledSync (polled _ ha nofun nofun) done
  · exact h.polledRemoteHeader (polled _ ha nofun nofun)
  · obtain ⟨f, ps, rfl⟩ := State.polledPlayerHeader_cases done
    have read : State.Inv { s with pulses := ps, flagsByte := f } := { h with }
    exact read.polledBranch (polled _ ha nofun nofun)
  · exact h.decodeStep ha done
  · exact h
  · have taken : State.Inv { s with cmds := cs } := { h with }
    exact taken.hostCommand done

/-- Settles O52, by the agent whose turn it is. -/
theorem everyStepKeepsTheInvariant : Obligations.EveryStepKeepsTheInvariant := by
  unfold Obligations.EveryStepKeepsTheInvariant
  intro s t h done
  obtain ⟨ts, -, rfl⟩ | ⟨ts, done⟩ | ⟨ts, rfl⟩ := step_cases done
  · exact State.Inv.powerOnReset _
  · have seen : State.Inv { s with sched := ts } := { h with }
    exact seen.mainTurn done
  · have seen : State.Inv { s with sched := ts } := { h with }
    exact seen.interruptTurn

end Sys2Proof.Machine

/-! PROOF. The Event Queue when it is full (R66), and the completed-message queue as a ring (R64). -/

namespace Sys2Proof.Machine

/-! ## A full Event Queue (R66) -/

/-- R66: with ten events queued a push drops the event, whatever it is. -/
theorem State.pushEvent_of_full {s : State} (full : 10 ≤ s.evCount) (e : RemoteEvent) : s.pushEvent e = s := by
  obtain ⟨dropped, -⟩ | ⟨-, room, -⟩ := s.pushEvent_cases e
  · exact dropped
  · omega

/-- With ten events queued a packet leaves its bytes in the checksum and its length in the cursor, and no event. -/
theorem State.packetDone_of_full {s : State} (full : 10 ≤ s.evCount) (ty : Byte) (p : List Byte) (e : RemoteEvent) :
    s.packetDone ty p e = { s with csum := accumulate s.csum (ty :: p), cursor := s.cursor + (1 + p.length) } := by
  rw [State.packetDone_eq]
  exact State.pushEvent_of_full (by exact full) e

/-- Settles O8: each of the seven packets is `packetDone` around its event, and the full queue drops the event. -/
theorem fullEventQueueDropsTheNewEvent : Obligations.FullEventQueueDropsTheNewEvent := by
  unfold Obligations.FullEventQueueDropsTheNewEvent
  intro v p0 p1 p2 p3 s full
  have dropped (ty : Byte) (p : List Byte) (e : RemoteEvent) := congrArg
    (Host.Outcome.next (φ := Fault) (ρ := Refusal)) (State.packetDone_of_full full ty p e)
  exact ⟨dropped 0x40 [v] _, dropped 0x41 [v] _, dropped 0x42 [v] _, dropped 0x43 [v] _, dropped 0x46 [v] _,
    dropped 0x47 [v] _, dropped 0xA0 [p0, p1, p2, p3] _⟩

/-! ## The ring of completed messages (R64, R263, R316) -/

/-- The slot of the message that `i` others wait in front of. -/
def State.cmqSlot (s : State) (i : Nat) : Nat := (s.cmqHead + i) % 10

/-- The ring has one slot for each of ten places in the queue. -/
theorem State.cmqSlot_ne (s : State) {i j : Nat} (hij : i < j) (hj : j < 10) : s.cmqSlot j ≠ s.cmqSlot i := by
  unfold State.cmqSlot
  omega

theorem State.cmqSlot_zero {s : State} (head : s.cmqHead < 10) : s.cmqSlot 0 = s.cmqHead := Nat.mod_eq_of_lt head

/-- R316: with the head removed, every place is one slot further on. -/
theorem State.cmqSlot_cmqPop (s : State) (i : Nat) : s.cmqPop.cmqSlot i = s.cmqSlot (i + 1) := by
  simp only [State.cmqSlot, State.cmqPop_cmqHead, Config.cmqCap]
  omega

/-- R263: an enqueue with room writes the slot behind the waiting messages and counts one more. -/
theorem State.enqueueCompleted_of_room {s : State} (room : s.cmqLen < 10) :
    s.enqueueCompleted =
      { s with cmq := s.cmq.setIfInBounds (s.cmqSlot s.cmqLen) s.msg, cmqLen := s.cmqLen + 1 } := by
  obtain ⟨-, stored⟩ | ⟨full, -⟩ := s.enqueueCompleted_cases
  · exact stored
  · omega

/-- R263, R64: an enqueue on a full queue is reported and drops the new message. -/
theorem State.enqueueCompleted_of_full {s : State} (full : 10 ≤ s.cmqLen) :
    s.enqueueCompleted = { s with diags := s.diags ++ [.queueOverflow] } := by
  obtain ⟨room, -⟩ | ⟨-, dropped⟩ := s.enqueueCompleted_cases
  · omega
  · exact dropped

/-- The new message is behind those that waited. -/
theorem State.enqueueCompleted_newest {s : State} (room : s.cmqLen < 10) :
    s.enqueueCompleted.cmq[s.cmqSlot s.cmqLen]? = some s.msg := by
  have inRing : s.cmqSlot s.cmqLen < 10 := Nat.mod_lt _ (by decide)
  rw [State.enqueueCompleted_of_room room]
  exact Vector.getElem?_setIfInBounds_self_of_lt inRing

/-- A message that waited is still in its slot. -/
theorem State.enqueueCompleted_waiting {s : State} (room : s.cmqLen < 10) {i : Nat} (hi : i < s.cmqLen) :
    s.enqueueCompleted.cmq[s.cmqSlot i]? = s.cmq[s.cmqSlot i]? := by
  rw [State.enqueueCompleted_of_room room]
  exact Vector.getElem?_setIfInBounds_ne (s.cmqSlot_ne hi room)

/-- The head of the queue is the message in the slot of place 0. -/
theorem State.cmq_cmqSlot_zero {s : State} (head : s.cmqHead < 10) : s.cmq[s.cmqSlot 0]? = some s.cmqFront := by
  rw [State.cmqSlot_zero head, State.cmqFront, Vector.getElem?_eq_getElem head, Option.getD_some]

/-- Settles O46: an enqueue writes the slot of a place that no waiting message has, and a removal moves the places by one
slot. -/
theorem messagesAreFirstInFirstOut : Obligations.MessagesAreFirstInFirstOut := by
  unfold Obligations.MessagesAreFirstInFirstOut
  intro s head len_le oldest
  have sameHead (room : s.cmqLen < 10) (i : Nat) : s.enqueueCompleted.cmqSlot i = s.cmqSlot i := by
    rw [State.enqueueCompleted_of_room room]; rfl
  refine ⟨fun room => ⟨?_, ?_, fun i hi => ?_⟩, fun full => State.enqueueCompleted_of_full full.ge,
    fun _ => ⟨State.cmq_cmqSlot_zero head, rfl, fun i hi => ?_⟩⟩
  · rw [State.enqueueCompleted_of_room room]
  · change s.enqueueCompleted.cmq[s.enqueueCompleted.cmqSlot s.cmqLen]? = _
    rw [sameHead room, State.enqueueCompleted_newest room]
  · change s.enqueueCompleted.cmq[s.enqueueCompleted.cmqSlot i]? = _
    rw [sameHead room, State.enqueueCompleted_waiting room hi]
    rfl
  · change s.cmq[s.cmqPop.cmqSlot i]? = _
    rw [State.cmqSlot_cmqPop]
    rfl

end Sys2Proof.Machine

/-! PROOF. The two sources of a message byte: a captured message and its end (R74), and the bits that the framer and `readByte`
assemble from one run of cells (R152, R153, R262). -/

namespace Sys2Proof.Machine

/-! ## Past the end of a captured message (R74) -/

/-- R74: the overrun is reported unless this message has already done so, and is noted. -/
theorem State.raiseError_bufferOverrun (s : State) :
    s.raiseError .bufferOverrun =
      { s with overrun := true, diags := if s.overrun = true then s.diags else s.diags ++ [.bufferOverrun] } := by
  by_cases reported : s.overrun = true
  · rw [State.raiseError, if_pos reported, if_pos reported, ← reported]
  · simp [State.raiseError, State.emitDiag, reported]

/-- Settles O24: at index 11 and above a message of eleven bytes has no byte, and the fetch is a free value with the
overrun reported. -/
theorem readPastTheMessageIsFree : Obligations.ReadPastTheMessageIsFree := by
  unfold Obligations.ReadPastTheMessageIsFree
  intro s m captured past
  have noByte : m[s.readIdx]? = none := Vector.getElem?_eq_none past
  simp only [State.takeByte, captured, noByte, State.raiseError_bufferOverrun]

/-! ## A byte assembled from eight cells (R96, R152) -/

/-- `n` cells ORed in from weight `i` on: the cells are used up, and bit `k` is the old one or that of cell `k - i`. -/
theorem readBits_spec (t : RangeTable) {n i : Nat} (v : Byte) {ps : List Nat} (hi : i + n ≤ 8) (hn : n ≤ ps.length) :
    ∃ b : Byte, readBits t n i v ps = some (b, ps.drop n) ∧ ∀ k,
      b.getLsbD k = (v.getLsbD k || (decide (i ≤ k) && ((ps.take n).map (dataBit t)).getD (k - i) false)) := by
  induction n generalizing i v ps with
  | zero => exact ⟨v, rfl, fun k => by simp⟩
  | succ n ih =>
    cases ps with
    | nil => simp at hn
    | cons p ps =>
      obtain ⟨b, read, bits⟩ := ih (i := i + 1) (v ||| bitAt (dataBit t p) i) (ps := ps) (by omega) (by simpa using hn)
      refine ⟨b, read, fun k => ?_⟩
      rw [bits, BitVec.getLsbD_or, getLsbD_bitAt _ _ _ (by omega)]
      obtain lt | rfl | gt := Nat.lt_trichotomy k i
      · have notYet : ¬ i + 1 ≤ k := by omega
        simp [lt.not_ge, lt.ne', notYet]
      · simp
      · obtain ⟨m, rfl⟩ : ∃ m, k = i + 1 + m := ⟨k - (i + 1), by omega⟩
        have otherBit : i ≠ i + 1 + m := by omega
        have nextCell : i + 1 + m - i = m + 1 := by omega
        simp [otherBit, nextCell, show i ≤ i + 1 + m by omega]

/-- R152: a byte of the bus has its bit `k` from cell `k`. -/
theorem readBusByte_spec (t : RangeTable) {ps : List Nat} (h : 8 ≤ ps.length) :
    ∃ b : Byte, readBusByte t ps = some (b, ps.drop 8) ∧
      ∀ k, k < 8 → b.getLsbD k = (ps.map (dataBit t)).getD k false := by
  obtain ⟨b, read, bits⟩ := readBits_spec t (n := 8) (i := 0) 0 le_rfl h
  refine ⟨b, read, fun k hk => ?_⟩
  rw [bits]
  simp [List.getD_eq_getElem?_getD, hk]

/-- R67, R152: byte `j` of a buffer that holds the bits of the cells is what `readByte` makes of the cells from `8 * j` on. -/
theorem readBusByte_eq_getElem (t : RangeTable) {cells : List Nat} (len : cells.length = 88) {m : Vector Byte 11}
    (bits : ∀ k, getBit m k = (cells.map (dataBit t)).getD k false) {j : Nat} (hj : j < 11) :
    readBusByte t (cells.drop (8 * j)) = some (m[j], cells.drop (8 * j + 8)) := by
  obtain ⟨b, read, bits_b⟩ := readBusByte_spec t (ps := cells.drop (8 * j)) (by simp; omega)
  have sameByte : b = m[j] := by
    refine BitVec.eq_of_getLsbD_eq fun i hi => ?_
    have fromBuffer := getLsbD_of_getBit m j i hi
    rw [Vector.getElem?_eq_getElem hj, Option.getD_some] at fromBuffer
    rw [bits_b i hi, fromBuffer, bits]
    simp [List.getD_eq_getElem?_getD]
  rw [read, sameByte, List.drop_drop]

/-! ## A message captured from the edges (R262, R263) -/

/-- R253, R262: in `PlayerSending` a pulse that is neither noise nor a presync is a message bit. -/
theorem State.onPulse_playerSending {s : State} {d : Nat} (sending : s.state = .playerSending)
    (heard : d ≤ s.cfg.noiseMaxUs) (noPresync : inRange d s.cfg.ranges.presync = false) :
    s.onPulse d = s.onPlayerSending d := by
  simp [State.onPulse, sending, heard.not_gt, noPresync]

theorem State.onPlayerSending_of_more {s : State} (d : Nat) (more : s.bitIdx + 1 ≠ 88) :
    s.onPlayerSending d =
      { s with msg := orBit s.msg s.bitIdx (dataBit s.cfg.ranges d), bitIdx := s.bitIdx + 1 } := by
  simp [State.onPlayerSending, Config.msgBits, more]

/-- R262, R263: bit 87 completes the message, which is queued. -/
theorem State.onPlayerSending_of_last {s : State} (d : Nat) (last : s.bitIdx + 1 = 88) (room : s.cmqLen < 10) :
    s.onPlayerSending d = { s with
      state := .awaitingMessage, bitIdx := 0, msg := orBit s.msg s.bitIdx (dataBit s.cfg.ranges d),
      cmq := s.cmq.setIfInBounds ((s.cmqHead + s.cmqLen) % 10) (orBit s.msg s.bitIdx (dataBit s.cfg.ranges d)),
      cmqLen := s.cmqLen + 1 } := by
  simp only [State.onPlayerSending, Config.msgBits, last, if_true]
  rw [State.enqueueCompleted_of_room (by exact room)]
  rfl

/-- The rest of a message, whatever was captured of it before: its bits go into `MSG` from `bitIdx` on, and the message is
queued. -/
theorem State.foldl_onPulse_playerSending {s : State} {cells : List Nat} (sending : s.state = .playerSending)
    (inMessage : s.bitIdx < 88) (rest : s.bitIdx + cells.length = 88) (room : s.cmqLen < 10)
    (heard : ∀ d ∈ cells, d ≤ s.cfg.noiseMaxUs ∧ inRange d s.cfg.ranges.presync = false) :
    cells.foldl (fun s d => State.onPulse d s) s = { s with
      state := .awaitingMessage, bitIdx := 0, msg := orBits s.msg s.bitIdx (cells.map (dataBit s.cfg.ranges)),
      cmq := s.cmq.setIfInBounds ((s.cmqHead + s.cmqLen) % 10)
        (orBits s.msg s.bitIdx (cells.map (dataBit s.cfg.ranges))),
      cmqLen := s.cmqLen + 1 } := by
  induction cells generalizing s with
  | nil => exact absurd rest inMessage.ne
  | cons d cells ih =>
    obtain ⟨⟨bound, noPresync⟩, heardRest⟩ := List.forall_mem_cons.mp heard
    rw [List.foldl_cons, State.onPulse_playerSending sending bound noPresync]
    simp only [List.length_cons] at rest
    by_cases last : s.bitIdx + 1 = 88
    · obtain rfl : cells = [] := List.length_eq_zero_iff.mp (by omega)
      exact State.onPlayerSending_of_last d last room
    · rw [State.onPlayerSending_of_more d last,
        ih (by exact sending) (by dsimp only; omega) (by dsimp only; omega) (by exact room) (by exact heardRest)]
      rfl

/-- Settles O26: both variants put cell `8 * j + i` into bit `i` of byte `j`, the framer by ORing into a cleared `MSG`. -/
theorem capturedBytesAreTheBytesOnTheBus : Obligations.CapturedBytesAreTheBytesOnTheBus := by
  unfold Obligations.CapturedBytesAreTheBytesOnTheBus
  intro s cells sending first cleared _ room len heard
  refine ⟨orBits s.msg s.bitIdx (cells.map (dataBit s.cfg.ranges)),
    State.foldl_onPulse_playerSending sending (by omega) (by omega) room heard, fun j hj => ?_⟩
  refine readBusByte_eq_getElem _ len (fun k => ?_) hj
  have zeroed : getBit s.msg k = false := cleared ▸ getBit_zeroBuf k
  rw [getBit_orBits _ _ _ _ (by simp [first, len]), zeroed, first]
  simp

end Sys2Proof.Machine

/-! PROOF. The packets and their bytes: encoding and decoding are inverse to each other, and a type byte alone says how many payload
bytes its packet has (R105, R112, R114, R116). -/

namespace Sys2Proof

/-! ## Decoding an encoded packet (R105, R112) -/

/-- R114, R188: a type byte outside the closed set is a packet by itself. -/
theorem decode_of_unknown {t : Byte} (unknown : knownTypes.contains t = false) (rest : List Byte) :
    decode (t :: rest) = .ok (.unknown t) rest := by
  simp only [knownTypes, List.contains_eq_mem, List.mem_cons, List.not_mem_nil, or_false, decide_eq_false_iff_not, not_or]
    at unknown
  simp only [decode, unknown, if_false]

/-- Settles O2: the constructor's type byte selects its own arm of the decoder, which takes the payload back. -/
theorem decodeInvertsEncode : Obligations.DecodeInvertsEncode := by
  unfold Obligations.DecodeInvertsEncode
  intro i rest wf
  cases i with
  | unknown t => exact decode_of_unknown (by simpa [Instr.wellFormed] using wf) rest
  | term => rfl
  | capreq v => rfl
  | lcdclr => rfl
  | vol v => rfl
  | mode v => rfl
  | record v => rfl
  | batt v => rfl
  | eqind v => rfl
  | alarm v => rfl
  | track p0 p1 p2 p3 => rfl
  | lcd seg unk c0 c1 c2 c3 c4 c5 c6 => rfl

/-- A packet alone in the stream. -/
theorem decode_encode {i : Instr} (wf : i.wellFormed = true) : decode (encode i) = .ok i [] := by
  simpa using decodeInvertsEncode i [] wf

/-- R117: a word of the opcode table is the packet whose bytes it begins with, the first byte in bits 7..0. -/
theorem decodeTableWord_of_startsWith {nbits w : Nat} {i : Instr} (wf : i.wellFormed = true)
    (bytes : encode i <+: tableBytes nbits w) : decodeTableWord nbits w = some i := by
  obtain ⟨rest, bytes⟩ := bytes
  rw [decodeTableWord, ← bytes, decodeInvertsEncode i rest wf]

/-- Settles O1: each word is the encoding of its packet, with zeros after it. -/
theorem decodesWordsOfTheTable : Obligations.DecodesWordsOfTheTable :=
  ⟨decodeTableWord_of_startsWith rfl (by decide), decodeTableWord_of_startsWith rfl (by decide),
    decodeTableWord_of_startsWith rfl (by decide), decodeTableWord_of_startsWith rfl (by decide),
    decodeTableWord_of_startsWith rfl (by decide), decodeTableWord_of_startsWith rfl (by decide),
    decodeTableWord_of_startsWith rfl (by decide)⟩

/-! ## The payload of a type byte (R105, R112, R116) -/

/-- R105, R112, R190: the type byte is followed by the payload that the dispatch table gives it. -/
theorem encode_shape (i : Instr) : Laws.EncodeShape.Statement i := by
  cases i with
  | term => exact Laws.EncodeShape.term
  | capreq v => exact Laws.EncodeShape.capreq v
  | lcdclr => exact Laws.EncodeShape.lcdclr
  | vol v => exact Laws.EncodeShape.vol v
  | mode v => exact Laws.EncodeShape.mode v
  | record v => exact Laws.EncodeShape.record v
  | batt v => exact Laws.EncodeShape.batt v
  | eqind v => exact Laws.EncodeShape.eqind v
  | alarm v => exact Laws.EncodeShape.alarm v
  | track p0 p1 p2 p3 => exact Laws.EncodeShape.track p0 p1 p2 p3
  | lcd seg unk c0 c1 c2 c3 c4 c5 c6 => exact Laws.EncodeShape.lcd seg unk c0 c1 c2 c3 c4 c5 c6
  | unknown t => exact Laws.EncodeShape.unknown t

theorem length_payload_of_encode {i : Instr} {t : Byte} {payload : List Byte} (wf : i.wellFormed = true)
    (enc : encode i = t :: payload) : payload.length = payloadBytes t := by
  obtain ⟨t', payload', enc', length⟩ := encode_shape i wf
  obtain ⟨rfl, rfl⟩ := List.cons.inj (enc.symm.trans enc')
  exact length

/-- The four formats of R105, as what a type byte `t` says of its packets: no payload, one byte, or the four and the nine
bytes that one type each has. -/
inductive HasFormat (t : Byte) : Prop where
  | p0 (i : Instr) (wf : i.wellFormed = true) (enc : encode i = [t])
  | p1 (mk : Byte → Instr) (wf : ∀ v, (mk v).wellFormed = true) (enc : ∀ v, encode (mk v) = [t, v])
      (truncated : decode [t] = .rejected (.truncated t))
  | p4 (track : t = 0xA0)
  | p9 (lcd : t = 0xC8)

/-- R112, R114: the eleven rows of the table, and every other type byte. -/
theorem hasFormat (t : Byte) : HasFormat t := by
  by_cases known : knownTypes.contains t = true
  · simp only [knownTypes, List.contains_eq_mem, List.mem_cons, List.not_mem_nil, or_false, decide_eq_true_eq] at known
    obtain rfl | rfl | rfl | rfl | rfl | rfl | rfl | rfl | rfl | rfl | rfl := known
    · exact .p0 .term rfl rfl
    · exact .p1 .capreq (fun _ => rfl) (fun _ => rfl) rfl
    · exact .p0 .lcdclr rfl rfl
    · exact .p1 .vol (fun _ => rfl) (fun _ => rfl) rfl
    · exact .p1 .mode (fun _ => rfl) (fun _ => rfl) rfl
    · exact .p1 .record (fun _ => rfl) (fun _ => rfl) rfl
    · exact .p1 .batt (fun _ => rfl) (fun _ => rfl) rfl
    · exact .p1 .eqind (fun _ => rfl) (fun _ => rfl) rfl
    · exact .p1 .alarm (fun _ => rfl) (fun _ => rfl) rfl
    · exact .p4 rfl
    · exact .p9 rfl
  · exact .p0 (.unknown t) (by simpa [Instr.wellFormed] using known) rfl

/-- Every type byte with a payload of its size is a packet. -/
theorem exists_encode_eq {t : Byte} {payload : List Byte} (length : payload.length = payloadBytes t) :
    ∃ i, i.wellFormed = true ∧ encode i = t :: payload := by
  cases hasFormat t with
  | p0 i wf enc =>
    rw [← length_payload_of_encode wf enc] at length
    obtain rfl := List.length_eq_zero_iff.mp length
    exact ⟨i, wf, enc⟩
  | p1 mk wf enc =>
    rw [← length_payload_of_encode (wf 0) (enc 0)] at length
    obtain ⟨v, rfl⟩ := List.length_eq_one_iff.mp length
    exact ⟨mk v, wf v, enc v⟩
  | p4 track =>
    subst track
    match payload, length with
    | [p0, p1, p2, p3], _ => exact ⟨.track p0 p1 p2 p3, rfl, rfl⟩
  | p9 lcd =>
    subst lcd
    match payload, length with
    | [seg, unk, c0, c1, c2, c3, c4, c5, c6], _ => exact ⟨.lcd seg unk c0 c1 c2 c3 c4 c5 c6, rfl, rfl⟩

theorem le_length_of_decodeP4 {t : Byte} {p rest : List Byte} {i : Instr} (h : decodeP4 t p = .ok i rest) :
    4 ≤ p.length := by
  unfold decodeP4 at h
  split at h
  · simp
  · cases h

theorem le_length_of_decodeP9 {t : Byte} {p rest : List Byte} {i : Instr} (h : decodeP9 t p = .ok i rest) :
    9 ≤ p.length := by
  unfold decodeP9 at h
  split at h
  · simp
  · cases h

/-- R105: a packet does not decode before its payload is there. -/
theorem payloadBytes_le_of_decode {t : Byte} {p rest : List Byte} {i : Instr} (h : decode (t :: p) = .ok i rest) :
    payloadBytes t ≤ p.length := by
  cases hasFormat t with
  | p0 _ wf enc =>
    rw [← length_payload_of_encode wf enc]
    exact Nat.zero_le _
  | p1 _ wf enc truncated =>
    rw [← length_payload_of_encode (wf 0) (enc 0)]
    cases p with
    | nil => rw [truncated] at h; cases h
    | cons v p => simp
  | p4 track => subst track; exact le_length_of_decodeP4 h
  | p9 lcd => subst lcd; exact le_length_of_decodeP9 h

/-- With its payload there, a type byte begins the encoding of a packet. -/
theorem exists_encode_append {t : Byte} {p : List Byte} (enough : payloadBytes t ≤ p.length) :
    ∃ i, i.wellFormed = true ∧ t :: p = encode i ++ p.drop (payloadBytes t) := by
  obtain ⟨i, wf, enc⟩ := exists_encode_eq (t := t) (List.length_take_of_le enough)
  exact ⟨i, wf, by rw [enc, List.cons_append, List.take_append_drop]⟩

/-! ## What decodes (R105, R112, R114) -/

/-- Settles O3: the stream begins with the encoding of some packet, and decoding gives that packet back. -/
theorem encodeInvertsDecode : Obligations.EncodeInvertsDecode := by
  unfold Obligations.EncodeInvertsDecode
  intro bs rest i h
  cases bs with
  | nil => cases h
  | cons t p =>
    obtain ⟨i', wf, bytes⟩ := exists_encode_append (payloadBytes_le_of_decode h)
    rw [bytes, decodeInvertsEncode i' _ wf] at h
    cases h
    exact ⟨wf, bytes⟩

/-- Settles O4: too short a payload is rejected, and a long enough one begins with a packet's. -/
theorem decodesEveryTypeByte : Obligations.DecodesEveryTypeByte := by
  unfold Obligations.DecodesEveryTypeByte
  intro t rest
  constructor
  · rintro ⟨i, r, h⟩
    exact payloadBytes_le_of_decode h
  · intro enough
    obtain ⟨i, wf, bytes⟩ := exists_encode_append enough
    exact ⟨i, _, by rw [bytes]; exact decodeInvertsEncode i _ wf⟩

end Sys2Proof

/-! PROOF. A packet completes and is counted (R154, R213), and the one whose bits come over the bus is the one that runs (R94,
R152). -/

namespace Sys2Proof.Machine

/-! ## Every packet completes (R170, R213) -/

/-- In `s` the packet completes: it is handled, and the loop's part of it takes the bytes of its encoding. (`PacketHandled`
says of a given outcome how many bytes were counted, not which.) -/
def State.PacketRuns (i : Instr) (s : State) : Prop :=
  ∃ s' ty p e, s.Handles s' ∧ encode i = ty :: p ∧ exec i s = .next (s'.packetDone ty p e)

theorem execCapreq_runs (v : Byte) (s : State) : State.PacketRuns (.capreq v) s := by
  by_cases request : v = 0x01
  · exact ⟨_, _, _, _, s.handles_stageCapability, rfl, if_pos request⟩
  · exact ⟨_, _, _, _, .log s _ _, rfl, if_neg request⟩

theorem execLcd_runs (seg unk c0 c1 c2 c3 c4 c5 c6 : Byte) (s : State) :
    State.PacketRuns (.lcd seg unk c0 c1 c2 c3 c4 c5 c6) s := by
  have stored := s.handles_lcdStore [c0, c1, c2, c3, c4, c5, c6]
  by_cases final : seg = 0x01
  · exact ⟨_, _, _, _, stored.trans (State.handles_lcdFlush _), rfl, if_pos final⟩
  · exact ⟨_, _, _, _, stored, rfl, if_neg final⟩

/-- The terminator ends the loop; every other packet is handled and counted, in every state. -/
theorem exec_runs (i : Instr) (s : State) :
    (i = .term ∧ exec i s = .next { s with csum := accumulate s.csum [0x00], termSeen := true }) ∨
      (i ≠ .term ∧ State.PacketRuns i s) := by
  cases i with
  | term => exact .inl ⟨rfl, rfl⟩
  | capreq v => exact .inr ⟨nofun, execCapreq_runs v s⟩
  | lcdclr => exact .inr ⟨nofun, _, _, _, _, .text s s.lcd 0 fun _ => Nat.zero_le 63, rfl, rfl⟩
  | vol v => exact .inr ⟨nofun, _, _, _, _, .refl s, rfl, rfl⟩
  | mode v => exact .inr ⟨nofun, _, _, _, _, .refl s, rfl, rfl⟩
  | record v => exact .inr ⟨nofun, _, _, _, _, .refl s, rfl, rfl⟩
  | batt v => exact .inr ⟨nofun, _, _, _, _, .refl s, rfl, rfl⟩
  | eqind v => exact .inr ⟨nofun, _, _, _, _, .refl s, rfl, rfl⟩
  | alarm v => exact .inr ⟨nofun, _, _, _, _, .refl s, rfl, rfl⟩
  | track p0 p1 p2 p3 => exact .inr ⟨nofun, _, _, _, _, .refl s, rfl, rfl⟩
  | lcd seg unk c0 c1 c2 c3 c4 c5 c6 => exact .inr ⟨nofun, execLcd_runs seg unk c0 c1 c2 c3 c4 c5 c6 s⟩
  | unknown ty => exact .inr ⟨nofun, _, _, _, _, .log s _ _, rfl, rfl⟩

/-- Settles O16: a handler touches neither `csum` nor `cursor`, and the loop's part of the packet takes its encoding. -/
theorem everyPacketCompletesAndIsChecksummed : Obligations.EveryPacketCompletesAndIsChecksummed := by
  unfold Obligations.EveryPacketCompletesAndIsChecksummed
  intro i s
  obtain ⟨rfl, done⟩ | ⟨notTerm, s', ty, p, e, handled, enc, done⟩ := exec_runs i s
  · exact ⟨_, done, rfl, rfl⟩
  · obtain ⟨_, _, _, _, _, _, _, rfl⟩ := handled.frame
    obtain ⟨q, k, counted⟩ := State.packetDone_frame _ ty p e
    refine ⟨_, done, ?_, ?_⟩
    · rw [counted, enc]
      rfl
    · rw [counted, enc, if_neg notTerm, List.length_cons, Nat.add_comm p.length 1]

/-! ## Bytes from the bus (R94, R96, R152) -/

/-- R96, R152: eight cells that carry the bits of a byte, bit 0 first, are read as that byte. -/
theorem readBusByte_of_byteBits {t : RangeTable} {cells : List Nat} {b : Byte} (bits : cells.map (dataBit t) = byteBits b)
    (rest : List Nat) : readBusByte t (cells ++ rest) = some (b, rest) := by
  have len : cells.length = 8 := by simpa using congrArg List.length bits
  obtain ⟨b', read, bits'⟩ := readBusByte_spec t (ps := cells ++ rest) (by simp [len])
  have sameByte : b' = b := by
    refine BitVec.eq_of_getLsbD_eq fun k hk => ?_
    rw [bits' k hk, List.map_append, bits, List.getD_append _ _ _ _ (by simpa using hk), byteBits_getD b k hk]
  rw [read, sameByte, ← len, List.drop_left]

theorem State.takeByte_bus {s : State} (bus : s.src = .bus) {cells rest : List Nat} (pulses : s.pulses = cells ++ rest)
    {b : Byte} (bits : cells.map (dataBit s.cfg.ranges) = byteBits b) :
    s.takeByte = some (b, { s with pulses := rest, readIdx := s.readIdx + 1 }) := by
  simp only [State.takeByte, bus, pulses, readBusByte_of_byteBits bits]

theorem State.takeBytes_bus {s : State} (bus : s.src = .bus) {cells rest : List Nat} (pulses : s.pulses = cells ++ rest)
    {bs : List Byte} (bits : cells.map (dataBit s.cfg.ranges) = bs.flatMap byteBits) :
    s.takeBytes bs.length = some (bs, { s with pulses := rest, readIdx := s.readIdx + bs.length }) := by
  induction bs generalizing s cells with
  | nil =>
    obtain rfl : cells = [] := List.map_eq_nil_iff.mp bits
    rw [List.nil_append] at pulses
    rw [← pulses]
    rfl
  | cons b bs ih =>
    obtain ⟨first, others, rfl, bitsFirst, bitsOthers⟩ := List.map_eq_append_iff.mp bits
    rw [List.append_assoc] at pulses
    rw [List.length_cons, State.takeBytes, State.takeByte_bus bus pulses bitsFirst]
    dsimp only
    rw [ih (by exact bus) rfl (by exact bitsOthers)]
    simp only [Nat.add_assoc, Nat.add_comm 1]

/-- R116: a fetch is as many bytes as the first of them calls for. -/
theorem State.fetchPacket_of_takeBytes {s t : State} {ty : Byte} {p : List Byte} (length : p.length = payloadBytes ty)
    (taken : s.takeBytes (ty :: p).length = some (ty :: p, t)) : s.fetchPacket = some (ty :: p, t) := by
  rw [List.length_cons, length, State.takeBytes] at taken
  cases first : s.takeByte with
  | none => simp [first] at taken
  | some byte =>
    obtain ⟨b, s1⟩ := byte
    cases others : State.takeBytes (payloadBytes ty) s1 with
    | none => simp [first, others] at taken
    | some bytes =>
      simp only [first, others, Option.some.injEq, Prod.mk.injEq, List.cons.injEq] at taken
      obtain ⟨⟨rfl, rfl⟩, rfl⟩ := taken
      simp only [State.fetchPacket, first, others]

/-- R116, R170: the bytes of a well-formed packet are fetched as a whole. -/
theorem State.fetchPacket_of_encode {s t : State} {i : Instr} (wf : i.wellFormed = true)
    (taken : s.takeBytes (encode i).length = some (encode i, t)) : s.fetchPacket = some (encode i, t) := by
  obtain ⟨ty, p, enc, length⟩ := encode_shape i wf
  rw [enc] at taken ⊢
  exact State.fetchPacket_of_takeBytes length taken

/-! ## The packet that runs (R213) -/

theorem State.packetStep_of_fetch {s s1 : State} {bs rest : List Byte} {i : Instr}
    (fetched : s.fetchPacket = some (bs, s1)) (decoded : decode bs = .ok i rest) : s.packetStep = exec i s1 := by
  simp only [State.packetStep, fetched, decoded]

/-- R213: within the budget, before a terminator and not draining, an iteration of the loop is a packet. -/
theorem State.decodeStep_of_packet {s : State} (noTerm : s.termSeen = false) (budget : s.cursor < 10)
    (notDraining : s.draining = false) : s.decodeStep = s.packetStep := by
  simp [State.decodeStep, Config.msgBudget, noTerm, budget.not_ge, notDraining]

/-- R213: so is a main turn in the decode phase, of the schedule or by default. -/
theorem State.step_eq_packetStep {r s : State} (sees : r.mainSees s) (decoding : s.activity = .decoding)
    (noTerm : s.termSeen = false) (budget : s.cursor < 10) (notDraining : s.draining = false) :
    step r = s.packetStep := by
  rw [State.step_of_mainSees sees, State.mainTurn, decoding]
  exact State.decodeStep_of_packet noTerm budget notDraining

/-- Settles O20: the cells are read back as the packet's bytes, which are fetched whole and decode to the packet. -/
theorem busPacketIsExecuted : Obligations.BusPacketIsExecuted := by
  unfold Obligations.BusPacketIsExecuted
  intro r s cells rest i sees decoding noTerm budget notDraining bus wf pulses bits
  have fetched := State.fetchPacket_of_encode wf (State.takeBytes_bus bus pulses bits)
  rw [State.step_eq_packetStep sees decoding noTerm budget notDraining]
  exact State.packetStep_of_fetch fetched (decode_encode wf)

end Sys2Proof.Machine

/-! PROOF. The range test at its boundaries (R93), and the two header bytes as the edge-driven framer writes and gathers them bit by
bit (R258, R259). -/

namespace Sys2Proof.Machine

/-! ## The range test at its boundaries (R93) -/

/-- Settles O27: the two bounds of the range are compared, the lower one included. -/
theorem rangesAreClosedOpen : Obligations.RangesAreClosedOpen := by
  unfold Obligations.RangesAreClosedOpen
  intro r d
  refine ⟨inRange_eq_true_iff d r, fun nonempty => ?_⟩
  rw [inRange_eq_true_iff, inRange_eq_false_iff, inRange_eq_true_iff]
  omega

/-! ## The remote header (R100, R258) -/

/-- R253, R258: in `InRemoteHeader` a pulse that is neither noise nor a presync clocks a header bit out. -/
theorem State.onPulse_inRemoteHeader {s : State} {d : Nat} (phase : s.state = .inRemoteHeader)
    (heard : d ≤ s.cfg.noiseMaxUs) (noPresync : inRange d s.cfg.ranges.presync = false) :
    s.onPulse d = s.onRemoteHeader := by
  simp [State.onPulse, phase, heard.not_gt, noPresync]

/-- R100: bits 2, 5 and 7 of the remote header are the session flags, the others are low. -/
theorem getLsbD_remoteHeader (ready outbound init : Bool) {k : Nat} (hk : k ≤ 7) :
    (remoteHeader ready outbound init).getLsbD k =
      [false, false, ready, false, false, outbound, false, init].getD k false := by
  have bits : (remoteHeader ready outbound init).getLsbD k =
      (ready && decide (2 = k) || outbound && decide (5 = k) || init && decide (7 = k)) := by
    simp only [remoteHeader, BitVec.getLsbD_or, getLsbD_bitAt _ _ _ (by decide : 2 < 8),
      getLsbD_bitAt _ _ _ (by decide : 5 < 8), getLsbD_bitAt _ _ _ (by decide : 7 < 8)]
  rw [bits]
  interval_cases k <;> simp

/-- Settles O33: the bit is that of the header formed from the flags now, and bit 7 is the last. -/
theorem remoteHeaderBitIsWritten : Obligations.RemoteHeaderBitIsWritten := by
  unfold Obligations.RemoteHeaderBitIsWritten
  intro s d heard noPresync phase inHeader
  rw [State.onPulse_inRemoteHeader phase heard noPresync, State.onRemoteHeader, State.remoteHeaderNow,
    getLsbD_remoteHeader _ _ _ inHeader]
  by_cases last : s.bitIdx = 7
  · simp only [last, if_true]
    rfl
  · have more : s.bitIdx + 1 ≠ 8 := by omega
    simp only [last, more, if_false, ← phase]
    rfl

/-! ## The player header (R102, R259) -/

/-- R253, R259: in `InPlayerHeader` a pulse that is neither noise nor a presync is a header bit. -/
theorem State.onPulse_inPlayerHeader {s : State} {d : Nat} (phase : s.state = .inPlayerHeader)
    (heard : d ≤ s.cfg.noiseMaxUs) (noPresync : inRange d s.cfg.ranges.presync = false) :
    s.onPulse d = s.onPlayerHeader d := by
  simp [State.onPulse, phase, heard.not_gt, noPresync]

/-- Settles O34: the bit is ORed into the flags byte, cleared at bit 0, and the eighth bit is still to come. -/
theorem playerHeaderBitIsGathered : Obligations.PlayerHeaderBitIsGathered := by
  unfold Obligations.PlayerHeaderBitIsGathered
  intro s d heard noPresync phase notLast
  have more : s.bitIdx + 1 ≠ 8 := by omega
  refine ⟨(if s.bitIdx = 0 then 0 else s.flagsByte) ||| bitAt (dataBit s.cfg.ranges d) s.bitIdx, ?_, fun j _ => ?_⟩
  · rw [State.onPulse_inPlayerHeader phase heard noPresync]
    simp only [State.onPlayerHeader, more, if_false]
  · rw [BitVec.getLsbD_or, getLsbD_bitAt _ _ _ (by omega), Bool.and_comm]
    by_cases first : s.bitIdx = 0
    · simp [first, eq_comm]
    · simp [first, eq_comm]

end Sys2Proof.Machine

/-! PROOF. What a bit cell reads as, and how a data pulse is classified (R134). -/

namespace Sys2Proof.Machine

/-! ## The bit cell (R134), for any table -/

theorem dataBit_eq_false_iff (t : RangeTable) (d : Nat) :
    dataBit t d = false ↔ t.dataBitLow.lo ≤ d ∧ d < t.dataBitLow.hi := by
  rw [dataBit, Bool.not_eq_false', inRange_eq_true_iff]

theorem dataBit_eq_true_iff (t : RangeTable) (d : Nat) :
    dataBit t d = true ↔ d < t.dataBitLow.lo ∨ t.dataBitLow.hi ≤ d := by
  rw [← Bool.not_eq_false, dataBit_eq_false_iff]
  omega

/-- R134: the symbol of a data pulse names its bit, so `classifyData` and `dataBit` are one test. -/
theorem classifyData_eq_ite_dataBit (t : RangeTable) (d : Nat) :
    classifyData t d = if dataBit t d then .dataBitOne else .dataBitZero := by
  rw [classifyData, dataBit]
  cases inRange d t.dataBitLow <;> rfl

theorem classifyData_eq_dataBitZero_iff (t : RangeTable) (d : Nat) :
    classifyData t d = .dataBitZero ↔ dataBit t d = false := by
  rw [classifyData_eq_ite_dataBit]
  cases dataBit t d <;> decide

theorem classifyData_eq_dataBitOne_iff (t : RangeTable) (d : Nat) :
    classifyData t d = .dataBitOne ↔ dataBit t d = true := by
  rw [classifyData_eq_ite_dataBit]
  cases dataBit t d <;> decide

theorem classifyData_ne_invalid (t : RangeTable) (d : Nat) : classifyData t d ≠ .invalid := by
  rw [classifyData_eq_ite_dataBit]
  cases dataBit t d <;> decide

/-- Settles O59: the bit is the negated range test and its symbol names it; R134's corner cases are evaluated. -/
theorem dataBitIsTheNegatedRange : Obligations.DataBitIsTheNegatedRange := by
  unfold Obligations.DataBitIsTheNegatedRange
  refine ⟨fun t d => ?_, by decide⟩
  exact ⟨dataBit_eq_false_iff t d, dataBit_eq_true_iff t d, classifyData_eq_dataBitZero_iff t d,
    classifyData_eq_dataBitOne_iff t d, classifyData_ne_invalid t d⟩

end Sys2Proof.Machine

/-! PROOF. The byte sources: a packet that lies in a captured message (R153), the running checksum of a captured message (R154,
R158), and a written byte read back from the bus (R156, R157). -/

namespace Sys2Proof.Machine

/-! ## Bytes from a captured message (R153) -/

/-- R153: below index 11 the byte is the message's own. -/
theorem State.takeByte_captured {s : State} {m : Vector Byte 11} (captured : s.src = .captured m)
    (inside : s.readIdx < 11) : s.takeByte = some (m[s.readIdx], { s with readIdx := s.readIdx + 1 }) := by
  have byte : m[s.readIdx]? = some m[s.readIdx] := Vector.getElem?_eq_getElem inside
  simp only [State.takeByte, captured, byte]

/-- R153: bytes taken inside the message are those from the read index on, and the read index moves past them. -/
theorem State.takeBytes_captured {s : State} {m : Vector Byte 11} (captured : s.src = .captured m) {n : Nat}
    (inside : s.readIdx + n ≤ 11) :
    s.takeBytes n = some ((m.toList.drop s.readIdx).take n, { s with readIdx := s.readIdx + n }) := by
  induction n generalizing s with
  | zero => rfl
  | succ n ih =>
    have here : s.readIdx < 11 := by omega
    have headByte : m.toList.drop s.readIdx = m[s.readIdx] :: m.toList.drop (s.readIdx + 1) :=
      List.drop_eq_getElem_cons (by simpa using here)
    rw [State.takeBytes, State.takeByte_captured captured here]
    dsimp only
    rw [ih (by exact captured) (by dsimp only; omega), headByte]
    simp only [List.take_succ_cons, Nat.add_assoc, Nat.add_comm 1]

/-- Bytes that agree with the message from an index on are a run of the message, within its eleven bytes. -/
theorem eq_take_drop_of_agree {m : Vector Byte 11} {i : Nat} {bs : List Byte} (nonempty : bs ≠ [])
    (agree : ∀ k, k < bs.length → m[i + k]? = bs[k]?) :
    i + bs.length ≤ 11 ∧ (m.toList.drop i).take bs.length = bs := by
  have positive : 0 < bs.length := List.length_pos_iff.mpr nonempty
  refine ⟨?_, List.ext_getElem? fun k => ?_⟩
  · have last := agree (bs.length - 1) (by omega)
    rw [List.getElem?_eq_getElem (by omega)] at last
    obtain ⟨inside, -⟩ := Vector.getElem?_eq_some_iff.mp last
    omega
  · by_cases inside : k < bs.length
    · rw [List.getElem?_take_of_lt inside, List.getElem?_drop, Vector.getElem?_toList, agree k inside]
    · rw [List.getElem?_eq_none (by simp; omega), List.getElem?_eq_none (by omega)]

/-- Settles O19: the packet's bytes are taken from the message, fetched whole, and decode to the packet. -/
theorem capturedPacketIsExecuted : Obligations.CapturedPacketIsExecuted := by
  unfold Obligations.CapturedPacketIsExecuted
  intro r s m i sees decoding noTerm budget notDraining captured wf agree
  have nonempty : encode i ≠ [] := by
    obtain ⟨ty, p, enc, -⟩ := encode_shape i wf
    simp [enc]
  obtain ⟨inside, bytes⟩ := eq_take_drop_of_agree nonempty agree
  have taken := State.takeBytes_captured captured inside
  rw [bytes] at taken
  rw [State.step_eq_packetStep sees decoding noTerm budget notDraining]
  exact State.packetStep_of_fetch (State.fetchPacket_of_encode wf taken) (decode_encode wf)

/-! ## The running checksum (R154, R158) -/

/-- R154: the bytes of a captured message before the read index are those that `csum` has accumulated. -/
def State.ChecksumCovers (s : State) (m : Vector Byte 11) : Prop :=
  s.csum = accumulate 0x00 (m.toList.take s.readIdx)

/-- R154: accumulating the bytes just taken covers the message up to the new read index. -/
theorem State.ChecksumCovers.takeBytes {s t : State} {m : Vector Byte 11} (covers : s.ChecksumCovers m)
    (captured : s.src = .captured m) {n : Nat} {bs : List Byte} (taken : s.takeBytes n = some (bs, t))
    (inside : t.readIdx ≤ 11) : accumulate t.csum bs = accumulate 0x00 (m.toList.take t.readIdx) := by
  obtain ⟨-, _, _, _, _, rfl⟩ := State.takeBytes_frame n taken
  rw [State.takeBytes_captured captured inside, Option.some.injEq, Prod.mk.injEq] at taken
  obtain ⟨rfl, -⟩ := taken
  rw [State.ChecksumCovers] at covers
  dsimp only
  rw [covers, ← accumulate_append, List.take_add]

theorem State.takeBytes_one {s t : State} {b : Byte} (taken : s.takeByte = some (b, t)) :
    s.takeBytes 1 = some ([b], t) := by
  simp only [State.takeBytes, taken]

/-- R116: a fetched packet is a run of bytes taken in order. -/
theorem State.takeBytes_of_fetchPacket {s t : State} {bs : List Byte} (fetched : s.fetchPacket = some (bs, t)) :
    s.takeBytes bs.length = some (bs, t) := by
  obtain ⟨ty, p, rfl, length, -⟩ := State.fetchPacket_frame fetched
  rw [List.length_cons, length, State.takeBytes]
  unfold State.fetchPacket at fetched
  cases first : s.takeByte with
  | none => simp [first] at fetched
  | some byte =>
    obtain ⟨b, s1⟩ := byte
    cases others : State.takeBytes (payloadBytes b) s1 with
    | none => simp [first, others] at fetched
    | some bytes =>
      simp only [first, others, Option.some.injEq, Prod.mk.injEq, List.cons.injEq] at fetched
      obtain ⟨⟨rfl, rfl⟩, rfl⟩ := fetched
      simp only [others]

/-- R170: what is fetched is the encoding of the packet it decodes to, with nothing left over. -/
theorem encode_eq_of_fetchPacket {s t : State} {bs rest : List Byte} {i : Instr}
    (fetched : s.fetchPacket = some (bs, t)) (decoded : decode bs = .ok i rest) : encode i = bs := by
  obtain ⟨ty, p, rfl, length, -⟩ := State.fetchPacket_frame fetched
  obtain ⟨-, bytes⟩ := encodeInvertsDecode _ _ _ decoded
  have whole : (encode i).length = (ty :: p).length := by
    rw [length_encode_of_decode decoded, List.length_cons, length]
  exact (List.append_inj_left ((List.append_nil _).trans bytes) whole.symm).symm

/-- R171: a packet handler takes no byte of its own and does not end the decode. -/
theorem exec_reading {i : Instr} {s t : State} (done : exec i s = .next t) :
    t.readIdx = s.readIdx ∧ t.activity = s.activity := by
  obtain ⟨-, rfl⟩ | ⟨s', ty, p, e, handled, rfl, -, -⟩ := exec_cases done
  · exact ⟨rfl, rfl⟩
  · obtain ⟨_, _, _, _, _, _, _, rfl⟩ := handled.frame
    obtain ⟨q, k, counted⟩ := State.packetDone_frame _ ty p e
    rw [counted]
    exact ⟨rfl, rfl⟩

/-- R154, R170: a packet's whole encoding enters the checksum. -/
theorem exec_csum {i : Instr} {s t : State} (done : exec i s = .next t) : t.csum = accumulate s.csum (encode i) := by
  obtain ⟨t', done', sum, -⟩ := everyPacketCompletesAndIsChecksummed i s
  obtain rfl := Host.Outcome.next.inj (done.symm.trans done')
  exact sum

/-- R158: the verdict of an accumulated sum. -/
theorem checksumFails_eq_decide (c : Byte) : checksumFails c = decide (c ≠ 0x00) := by
  rw [Bool.eq_iff_iff, checksumFails, bne_iff_ne, decide_eq_true_iff]

/-- R217: the checksum byte enters the checksum, whose being not zero is the verdict, and the decode ends. -/
theorem State.checksumStep_of_takeByte {s s1 : State} {b : Byte} (taken : s.takeByte = some (b, s1)) :
    s.checksumStep = .next (State.endDecode
      { s1 with csum := s1.csum ^^^ b, checksumError := checksumFails (s1.csum ^^^ b) }) := by
  simp only [State.checksumStep, State.readByte, taken, State.accumulateBytes, accumulate_cons, accumulate_nil]
  cases fails : checksumFails (s1.csum ^^^ b) with
  | false => rfl
  | true => rfl

/-- R154, R158: along the decode of a captured message, one step of the loop at a time. -/
theorem State.ChecksumCovers.decodeStep {s t : State} {m : Vector Byte 11} (covers : s.ChecksumCovers m)
    (captured : s.src = .captured m) (decoding : s.activity = .decoding) (done : s.decodeStep = .next t)
    (inside : t.readIdx ≤ 11) :
    t.ChecksumCovers m ∧ (t.activity = .idle → t.checksumError = checksumFails t.csum) := by
  obtain ⟨-, done⟩ | ⟨-, -, done | done⟩ := State.decodeStep_cases done
  · obtain ⟨b, s1, -, -, -, taken, -⟩ := State.checksumStep_cases done
    rw [State.checksumStep_of_takeByte taken, Host.Outcome.next.injEq] at done
    obtain ⟨rs, ended⟩ := State.endDecode_frame
      { s1 with csum := s1.csum ^^^ b, checksumError := checksumFails (s1.csum ^^^ b) }
    rw [ended] at done
    subst done
    exact ⟨covers.takeBytes captured (State.takeBytes_one taken) inside, fun _ => rfl⟩
  · obtain ⟨b, s1, taken, rfl⟩ := State.drainStep_cases done
    refine ⟨covers.takeBytes captured (State.takeBytes_one taken) inside, fun idle => ?_⟩
    obtain ⟨_, _, _, _, rfl⟩ := State.takeByte_frame taken
    exact absurd (decoding.symm.trans idle) nofun
  · obtain ⟨bs, s1, i, rest, fetched, decoded, done⟩ := State.packetStep_cases done
    obtain ⟨readIdx, activity⟩ := exec_reading done
    refine ⟨?_, fun idle => ?_⟩
    · rw [State.ChecksumCovers, exec_csum done, encode_eq_of_fetchPacket fetched decoded, readIdx]
      exact covers.takeBytes captured (State.takeBytes_of_fetchPacket fetched) (readIdx ▸ inside)
    · obtain ⟨_, _, -, -, _, _, _, _, rfl⟩ := State.fetchPacket_frame fetched
      exact absurd (decoding.symm.trans (activity.symm.trans idle)) nofun

/-- Settles O23: a packet, a drained byte and the checksum byte each accumulate the bytes they take, and the last stores the
verdict. -/
theorem checksumCoversEveryByteRead : Obligations.ChecksumCoversEveryByteRead := by
  unfold Obligations.ChecksumCoversEveryByteRead
  intro r s t m sees decoding captured covers done inside
  rw [State.step_of_mainSees sees, State.mainTurn, decoding] at done
  obtain ⟨covers', verdict⟩ := State.ChecksumCovers.decodeStep covers captured decoding done inside
  refine ⟨covers', fun idle => ?_⟩
  rw [verdict idle, covers', checksumFails_eq_decide]
  rfl

/-! ## A written byte read back (R156, R157) -/

/-- R156: the pulses that written bits make are read as those bits. -/
theorem map_dataBit_writtenPulse {p : Params} (ok : waveformOk p) (bits : List Bool) :
    (bits.map (writtenPulse p.waveform)).map (dataBit p.ranges) = bits := by
  obtain ⟨readsBack, -⟩ := ok
  rw [List.map_map]
  exact List.map_id'' readsBack bits

/-- Settles O25: the bits written are those of the byte, bit 0 first, and their cells carry them. -/
theorem writtenByteReadsBack : Obligations.WrittenByteReadsBack := by
  unfold Obligations.WrittenByteReadsBack
  intro s r v rest ok bus
  refine ⟨byteBits v, rfl, ?_⟩
  have taken := State.takeByte_bus (s := { r with pulses := (byteBits v).map (writtenPulse r.cfg.waveform) ++ rest })
    bus rfl (map_dataBit_writtenPulse ok (byteBits v))
  simp only [State.readByte, taken, State.accumulateBytes, accumulate_cons, accumulate_nil]

end Sys2Proof.Machine

/-! PROOF. What each packet does, in full (R171 to R188): its event, the text it stores, the reply it stages, and what it
leaves alone. -/

namespace Sys2Proof.Machine

/-! ## A packet with an event (R175 to R181, R213) -/

/-- R213, R215, R66: an event other than `None` goes on top of the Event Queue while there is room. -/
theorem State.packetDone_event (s : State) (ty : Byte) (p : List Byte) {e : RemoteEvent} (event : e ≠ .none) :
    s.packetDone ty p e = { s with
      csum := accumulate s.csum (ty :: p), cursor := s.cursor + (1 + p.length),
      evq := if s.evCount < 10 then s.evq.setIfInBounds s.evCount e else s.evq,
      evCount := if s.evCount < 10 then s.evCount + 1 else s.evCount } := by
  by_cases room : s.evCount < 10
  · simp only [room, if_true]
    rw [State.packetDone_eq]
    obtain ⟨-, noEvent | full⟩ | ⟨-, -, pushed⟩ := State.pushEvent_cases
      { s with csum := accumulate s.csum (ty :: p), cursor := s.cursor + (1 + p.length) } e
    · exact absurd noEvent event
    · exact absurd room (Nat.not_lt.mpr full)
    · exact pushed
  · simp only [room, if_false]
    exact State.packetDone_of_full (Nat.not_lt.mp room) ty p e

/-- With room in the Event Queue the event is pushed. -/
theorem State.packetDone_of_room {s : State} (room : s.evCount < 10) (ty : Byte) (p : List Byte) {e : RemoteEvent}
    (event : e ≠ .none) :
    s.packetDone ty p e = { s with
      csum := accumulate s.csum (ty :: p), cursor := s.cursor + (1 + p.length),
      evq := s.evq.setIfInBounds s.evCount e, evCount := s.evCount + 1 } := by
  simp only [s.packetDone_event ty p event, room, if_true]

/-- Settles O5: `VOL` is `packetDone` around the volume event of its level. -/
theorem volumePacketPushesItsLevel : Obligations.VolumePacketPushesItsLevel := by
  unfold Obligations.VolumePacketPushesItsLevel
  intro v s room
  exact congrArg Host.Outcome.next (State.packetDone_of_room room 0x40 [v] nofun)

/-- Settles O6: each of the five packets is `packetDone` around the event that carries its byte. -/
theorem indicatorPacketsCarryTheirByte : Obligations.IndicatorPacketsCarryTheirByte := by
  unfold Obligations.IndicatorPacketsCarryTheirByte
  intro v s room
  have pushed (ty : Byte) {e : RemoteEvent} (event : e ≠ .none) := congrArg
    (Host.Outcome.next (φ := Fault) (ρ := Refusal)) (State.packetDone_of_room room ty [v] event)
  exact ⟨pushed 0x41 nofun, pushed 0x42 nofun, pushed 0x43 nofun, pushed 0x46 nofun, pushed 0x47 nofun⟩

/-- Settles O7: `TRACK` is `packetDone` around the event of its four bytes. -/
theorem trackPacketPushesDecodedTrack : Obligations.TrackPacketPushesDecodedTrack := by
  unfold Obligations.TrackPacketPushesDecodedTrack
  intro p0 p1 p2 p3 s room
  exact congrArg Host.Outcome.next (State.packetDone_of_room room 0xA0 [p0, p1, p2, p3] nofun)

/-! ## The packets without an event that write one field (R172, R174, R188) -/

/-- Settles O9: `LCDCLR` is `packetDone` without an event, after the offset is reset. -/
theorem lcdClearResetsTheOffset : Obligations.LcdClearResetsTheOffset := by
  unfold Obligations.LcdClearResetsTheOffset
  intro s
  exact congrArg Host.Outcome.next (State.packetDone_none { s with lcdOff := 0 } 0x08 [])

/-- Settles O10: the terminator's byte 0x00 leaves the checksum as it is, and is no row of the dispatch table. -/
theorem terminatorEndsThePackets : Obligations.TerminatorEndsThePackets := by
  unfold Obligations.TerminatorEndsThePackets
  refine ⟨fun s => ?_, rfl⟩
  have sum : accumulate s.csum [0x00] = s.csum := BitVec.xor_zero
  simp only [exec, execTerm, State.accumulateBytes, sum]

/-- R188, R114: a type byte outside the closed set has no row in the dispatch table. -/
theorem dispatchTable_of_unknown {t : Byte} (unknown : knownTypes.contains t = false) :
    dispatchTable t = .unknownType := by
  simp only [knownTypes, List.contains_eq_mem, List.mem_cons, List.not_mem_nil, or_false, decide_eq_false_iff_not, not_or]
    at unknown
  simp only [dispatchTable, unknown, if_false]

/-- Settles O11: the sentinel fixes no payload, and the packet is `packetDone` without an event after the error's entry. -/
theorem unknownTypeStartsDraining : Obligations.UnknownTypeStartsDraining := by
  unfold Obligations.UnknownTypeStartsDraining
  intro t s unknown
  have sentinel := dispatchTable_of_unknown unknown
  refine ⟨sentinel, by rw [payloadBytes, sentinel], ?_⟩
  exact congrArg Host.Outcome.next (State.packetDone_none (s.raiseError (.unknownType t)) t [])

/-! ## The step inside a decode (R170, R213) -/

/-- Settles O18: the main turn is the packet step, which runs what the fetched bytes decode to. -/
theorem stepRunsTheDecodedPacket : Obligations.StepRunsTheDecodedPacket := by
  unfold Obligations.StepRunsTheDecodedPacket
  intro r s s1 bs rest i sees decoding noTerm budget notDraining fetched decoded
  rw [State.step_eq_packetStep sees decoding noTerm budget notDraining]
  exact State.packetStep_of_fetch fetched decoded

/-! ## Who touches what (R171) -/

/-- A packet writes the checksum and the cursor, the Event Queue, the flags of the decode loop, the diagnostic channel, and
nothing else. -/
def State.CountsPacket (s t : State) : Prop :=
  ∃ cs cu q k dr te ds, t = { s with
    csum := cs, cursor := cu, evq := q, evCount := k, draining := dr, termSeen := te, diags := ds }

/-- The handler's own part of that is starting to drain, and logging. -/
theorem State.CountsPacket.of_log (s : State) (dr : Bool) (ds : List Diag) (ty : Byte) (p : List Byte) (e : RemoteEvent) :
    s.CountsPacket (State.packetDone { s with draining := dr, diags := ds } ty p e) := by
  obtain ⟨q, k, counted⟩ := State.packetDone_frame { s with draining := dr, diags := ds } ty p e
  exact ⟨_, _, q, k, dr, s.termSeen, ds, counted⟩

/-- The packets of the LCD Text Accumulator. -/
def IsTextPacket (i : Instr) : Prop :=
  i = .lcdclr ∨ ∃ seg unk c0 c1 c2 c3 c4 c5 c6, i = .lcd seg unk c0 c1 c2 c3 c4 c5 c6

theorem State.lcdAppend_frame (cs : List Byte) (s : State) :
    ∃ l lo, (State.lcdAppend cs s).1 = { s with lcd := l, lcdOff := lo } := by
  induction cs generalizing s with
  | nil => exact ⟨_, _, rfl⟩
  | cons c cs ih =>
    unfold State.lcdAppend
    split
    · obtain ⟨l, lo, rest⟩ := ih { s with lcd := s.lcd.setIfInBounds s.lcdOff c, lcdOff := s.lcdOff + 1 }
      exact ⟨l, lo, rest⟩
    · exact ih s

/-- In every state, storing a chunk writes the text, its offset and the diagnostic channel. -/
theorem State.lcdStore_frame (s : State) (chars : List Byte) :
    ∃ l lo ds, s.lcdStore chars = { s with lcd := l, lcdOff := lo, diags := ds } := by
  obtain ⟨l, lo, appended⟩ := State.lcdAppend_frame (lcdChunk chars) s
  simp only [State.lcdStore, appended]
  split
  · exact ⟨l, lo, _, rfl⟩
  · exact ⟨l, lo, _, rfl⟩

/-- R171: beside what every packet does, `CAPREQ` writes the outbound state and the text packets the accumulator. -/
theorem exec_writes {i : Instr} {s t : State} (done : exec i s = .next t) :
    s.CountsPacket t ∨
      (∃ v o c b, i = .capreq v ∧ State.CountsPacket { s with out := o, outCursor := c, hasOutboundData := b } t) ∨
      (∃ l lo, IsTextPacket i ∧ State.CountsPacket { s with lcd := l, lcdOff := lo } t) := by
  cases i with
  | term => cases done; exact .inl ⟨_, _, _, _, _, _, _, rfl⟩
  | capreq v =>
    simp only [exec, execCapreq] at done
    split at done
    · obtain rfl := Host.Outcome.next.inj done
      obtain ⟨o, c, ds, staged⟩ := s.stageCapability_frame
      rw [staged]
      exact .inr (.inl ⟨v, o, c, true, rfl, .of_log _ _ _ _ _ _⟩)
    · cases done
      exact .inl (.of_log s s.draining _ _ _ _)
  | lcdclr => cases done; exact .inr (.inr ⟨s.lcd, 0, .inl rfl, .of_log _ _ _ _ _ _⟩)
  | vol v => cases done; exact .inl (.of_log s s.draining s.diags _ _ _)
  | mode v => cases done; exact .inl (.of_log s s.draining s.diags _ _ _)
  | record v => cases done; exact .inl (.of_log s s.draining s.diags _ _ _)
  | batt v => cases done; exact .inl (.of_log s s.draining s.diags _ _ _)
  | eqind v => cases done; exact .inl (.of_log s s.draining s.diags _ _ _)
  | alarm v => cases done; exact .inl (.of_log s s.draining s.diags _ _ _)
  | track p0 p1 p2 p3 => cases done; exact .inl (.of_log s s.draining s.diags _ _ _)
  | lcd seg unk c0 c1 c2 c3 c4 c5 c6 =>
    obtain ⟨l, lo, ds, stored⟩ := s.lcdStore_frame [c0, c1, c2, c3, c4, c5, c6]
    have text : IsTextPacket (.lcd seg unk c0 c1 c2 c3 c4 c5 c6) := .inr ⟨_, _, _, _, _, _, _, _, _, rfl⟩
    simp only [exec, execLcd, stored] at done
    split at done
    · cases done; exact .inr (.inr ⟨_, 0, text, .of_log _ _ _ _ _ _⟩)
    · cases done; exact .inr (.inr ⟨l, lo, text, .of_log _ _ _ _ _ _⟩)
  | unknown ty => cases done; exact .inl (.of_log s true _ _ _ _)

/-- Settles O17: the three ways a packet writes the state each keep the frame, the flags and the verdict. -/
theorem packetHandlersKeepToTheirState : Obligations.PacketHandlersKeepToTheirState := by
  unfold Obligations.PacketHandlersKeepToTheirState
  intro i s t done
  obtain ⟨_, _, _, _, _, _, _, rfl⟩ | ⟨v, _, _, _, rfl, _, _, _, _, _, _, _, rfl⟩ |
    ⟨_, _, text, _, _, _, _, _, _, _, rfl⟩ := exec_writes done
  · exact ⟨rfl, rfl, rfl, rfl, rfl, fun _ => ⟨fun _ => rfl, rfl, rfl⟩, fun _ _ => ⟨fun _ => rfl, rfl⟩⟩
  · exact ⟨rfl, rfl, rfl, rfl, rfl, fun other => absurd rfl (other v), fun _ _ => ⟨fun _ => rfl, rfl⟩⟩
  · refine ⟨rfl, rfl, rfl, rfl, rfl, fun _ => ⟨fun _ => rfl, rfl, rfl⟩, fun notClear notLcd => ?_⟩
    obtain clear | ⟨seg, unk, c0, c1, c2, c3, c4, c5, c6, lcd⟩ := text
    · exact absurd clear notClear
    · exact absurd lcd (notLcd seg unk c0 c1 c2 c3 c4 c5 c6)

/-! ## Bytes staged as far as they fit (R173, R292, R294) -/

theorem orBits_append (buf : Vector Byte 11) (k : Nat) (xs ys : List Bool) :
    orBits buf k (xs ++ ys) = orBits (orBits buf k xs) (k + xs.length) ys := by
  induction xs generalizing buf k with
  | nil => rfl
  | cons x xs ih =>
    rw [List.cons_append, orBits, ih, List.length_cons, Nat.add_assoc, Nat.add_comm 1]
    rfl

/-- A run of no bits fits even behind the end of the buffer. -/
theorem getBit_orBits_of_fits (bs : List Bool) (buf : Vector Byte 11) {c : Nat} (k : Nat) (fits : bs.length ≤ 88 - c) :
    getBit (orBits buf c bs) k = (getBit buf k || (decide (c ≤ k) && bs.getD (k - c) false)) := by
  cases bs with
  | nil => simp [orBits]
  | cons b bs =>
    rw [List.length_cons] at fits
    exact getBit_orBits (b :: bs) buf c k (by rw [List.length_cons]; omega)

/-- R67: the bits of bytes in wire order, eight to a byte. -/
def bytesBits (vs : List Byte) : List Bool := vs.flatMap byteBits

@[simp] theorem bytesBits_nil : bytesBits [] = [] := rfl

@[simp] theorem bytesBits_cons (v : Byte) (vs : List Byte) : bytesBits (v :: vs) = byteBits v ++ bytesBits vs := rfl

@[simp] theorem length_bytesBits (vs : List Byte) : (bytesBits vs).length = 8 * vs.length := by
  induction vs with
  | nil => rfl
  | cons v vs ih => simp only [bytesBits_cons, List.length_append, byteBits_length, ih, List.length_cons]; omega

/-- Bit `8 * j + i` is bit `i` of byte `j`, and low behind the last byte. -/
theorem getD_bytesBits (vs : List Byte) (j : Nat) {i : Nat} (hi : i < 8) :
    (bytesBits vs).getD (8 * j + i) false = (vs.getD j 0).getLsbD i := by
  induction vs generalizing j with
  | nil => simp
  | cons v vs ih =>
    rw [bytesBits_cons]
    cases j with
    | zero => rw [List.getD_append _ _ _ _ (by simpa using hi), Nat.mul_zero, Nat.zero_add, byteBits_getD v i hi]; rfl
    | succ j =>
      have behind : 8 * (j + 1) + i - 8 = 8 * j + i := by omega
      rw [List.getD_append_right _ _ _ _ (by rw [byteBits_length]; omega), byteBits_length, behind, ih]
      rfl

/-- How many bytes of a run of `n` the Outbound Buffer takes behind its cursor: whole bytes only (R294). -/
def State.outFit (s : State) (n : Nat) : Nat := min n ((88 - s.outCursor) / 8)

/-- R292, R294: the bytes that fit are staged behind the cursor, each of the others is dropped with a diagnostic. -/
theorem State.queueBytes_spec (vs : List Byte) (s : State) :
    s.queueBytes vs = { s with
      out := orBits s.out s.outCursor (bytesBits (vs.take (s.outFit vs.length))),
      outCursor := s.outCursor + 8 * s.outFit vs.length,
      diags := s.diags ++ List.replicate (vs.length - s.outFit vs.length) .outboundOverflow } := by
  induction vs generalizing s with
  | nil => simp [State.queueBytes, State.outFit, orBits]
  | cons v vs ih =>
    rw [State.queueBytes, ih]
    obtain ⟨fits, queued⟩ | ⟨full, dropped⟩ := s.queueByte_cases v
    · have oneMore : s.outFit (vs.length + 1) = (s.queueByte v).outFit vs.length + 1 := by
        rw [queued]; simp only [State.outFit]; omega
      rw [List.length_cons, oneMore, List.take_succ_cons, bytesBits_cons, orBits_append, byteBits_length,
        Nat.add_sub_add_right, Nat.mul_succ, Nat.add_comm (8 * _), ← Nat.add_assoc, queued]
    · have noneFits : s.outFit (vs.length + 1) = 0 := by simp only [State.outFit]; omega
      have stillNone : (s.queueByte v).outFit vs.length = 0 := by rw [dropped]; simp only [State.outFit]; omega
      rw [List.length_cons, noneFits, stillNone, dropped]
      simp [orBits, List.replicate_succ]

/-- R62, R294: the staged bytes lie in the buffer from the cursor on, and every other bit is as it was. -/
theorem getBit_staged (buf : Vector Byte 11) {c n : Nat} (vs : List Byte) (fits : n ≤ (88 - c) / 8)
    (len : n ≤ vs.length) :
    (∀ k, k < c ∨ c + 8 * n ≤ k → getBit (orBits buf c (bytesBits (vs.take n))) k = getBit buf k) ∧
      ∀ j i, j < n → i < 8 → getBit (orBits buf c (bytesBits (vs.take n))) (c + 8 * j + i) =
        (getBit buf (c + 8 * j + i) || (vs.getD j 0).getLsbD i) := by
  have length : (bytesBits (vs.take n)).length = 8 * n := by rw [length_bytesBits, List.length_take_of_le len]
  have bit (k : Nat) := getBit_orBits_of_fits (bytesBits (vs.take n)) buf (c := c) k (by omega)
  refine ⟨fun k outside => ?_, fun j i hj hi => ?_⟩
  · rw [bit]
    obtain before | behind := outside
    · simp [before.not_ge]
    · rw [List.getD_eq_default _ _ (by omega)]
      simp
  · have place : c + 8 * j + i - c = 8 * j + i := by omega
    have inside : c ≤ c + 8 * j + i := by omega
    have same : (vs.take n).getD j 0 = vs.getD j 0 := by
      rw [List.getD_eq_getElem?_getD, List.getElem?_take_of_lt hj, ← List.getD_eq_getElem?_getD]
    rw [bit, place, getD_bytesBits _ _ hi, same]
    simp [inside]

/-- Settles O13: the reply's ten bytes are staged as far as they fit, then the flag is raised and the packet counted. -/
theorem capabilityReplyIsAppendedAsFarAsItFits : Obligations.CapabilityReplyIsAppendedAsFarAsItFits := by
  unfold Obligations.CapabilityReplyIsAppendedAsFarAsItFits
  intro s reply fit
  obtain ⟨others, appended⟩ := getBit_staged s.out (c := s.outCursor) (n := fit) reply (Nat.min_le_right ..)
    (Nat.min_le_left ..)
  refine ⟨_, ?_, others, appended⟩
  have staged := State.queueBytes_spec reply s
  have stage : s.stageCapability = (s.queueBytes reply).finalizeOutbound := rfl
  simp only [exec, execCapreq, if_true, stage, staged, State.packetDone_none]
  rfl

/-! ## A chunk stored as far as it fits (R182, R183, R186) -/

/-- The characters of a packet that are stored: those of its chunk that fit below index 63 (R183, R186). -/
def State.lcdKept (s : State) (chars : List Byte) : List Byte := (lcdChunk chars).take (63 - s.lcdOff)

/-- R182, R186: the kept characters are stored from the offset on, and `Diag(LcdOverflow)` says that some were not kept. -/
theorem State.lcdStore_spec {s : State} (bound : s.lcdOff ≤ 63) (chars : List Byte) :
    ∃ l, s.lcdStore chars = { s with
        lcd := l, lcdOff := s.lcdOff + (s.lcdKept chars).length,
        diags := if (s.lcdKept chars).length < (lcdChunk chars).length then s.diags ++ [.lcdOverflow] else s.diags } ∧
      ∀ a, l[a]? =
        if s.lcdOff ≤ a ∧ a < s.lcdOff + (s.lcdKept chars).length then (s.lcdKept chars)[a - s.lcdOff]?
        else s.lcd[a]? := by
  obtain ⟨l, appended, bytes, overflow⟩ := State.lcdAppend_spec (lcdChunk chars) s bound
  have length : (s.lcdKept chars).length = min (lcdChunk chars).length (63 - s.lcdOff) := by
    rw [State.lcdKept, List.length_take, Nat.min_comm]
  refine ⟨l, ?_, fun a => ?_⟩
  · simp only [State.lcdStore, appended, overflow, decide_eq_true_eq]
    rw [← length]
    by_cases dropped : 63 < s.lcdOff + (lcdChunk chars).length
    · rw [if_pos dropped, if_pos (by omega)]
      rfl
    · rw [if_neg dropped, if_neg (by omega)]
  · rw [bytes, ← length]
    by_cases new : s.lcdOff ≤ a ∧ a < s.lcdOff + (s.lcdKept chars).length
    · rw [if_pos new, if_pos new, State.lcdKept, List.getElem?_take_of_lt (by omega)]
    · rw [if_neg new, if_neg new]

/-- Settles O14: a packet that does not end the text stores its chunk and is counted, without an event. -/
theorem moreSegmentsPacketAppendsItsChunk : Obligations.MoreSegmentsPacketAppendsItsChunk := by
  unfold Obligations.MoreSegmentsPacketAppendsItsChunk
  intro seg unk c0 c1 c2 c3 c4 c5 c6 s more bound chunk kept
  obtain ⟨l, stored, bytes⟩ := State.lcdStore_spec bound [c0, c1, c2, c3, c4, c5, c6]
  refine ⟨l, ?_, bytes⟩
  simp only [exec, execLcd, more, if_false, stored, State.packetDone_none]
  rfl

/-! ## The text of a final segment (R182, R184, R185) -/

/-- R185, R120: the digits and the space are `Time`; 0x14 and 0x04 are the titles. -/
theorem lcdSubType_eq (b : Byte) :
    lcdSubType b =
      if b ∈ ([0x30, 0x31, 0x32, 0x33, 0x34, 0x35, 0x36, 0x37, 0x38, 0x39, 0x20] : List Byte) then .time
      else if b = 0x14 then .trackTitle else if b = 0x04 then .discTitle else .unknown := by
  have timeChars : ((0x30 ≤ b ∧ b ≤ 0x39) ∨ b = 0x20) ↔
      b ∈ ([0x30, 0x31, 0x32, 0x33, 0x34, 0x35, 0x36, 0x37, 0x38, 0x39, 0x20] : List Byte) := by
    simp only [List.mem_cons, List.not_mem_nil, or_false]
    bv_omega
  simp only [lcdSubType, timeChars]

/-- The text accumulated once the kept characters of a packet are stored. -/
def State.lcdWhole (s : State) (chars : List Byte) : List Byte := s.lcd.toList.take s.lcdOff ++ s.lcdKept chars

theorem State.length_lcdWhole {s : State} (bound : s.lcdOff ≤ 63) (chars : List Byte) :
    (s.lcdWhole chars).length = s.lcdOff + (s.lcdKept chars).length ∧ (s.lcdWhole chars).length ≤ 63 := by
  simp only [State.lcdWhole, State.lcdKept, List.length_append, List.length_take, Vector.length_toList]
  omega

/-- A character of the whole text: stored before the packet, or kept of it. -/
theorem State.getElem?_lcdWhole {s : State} (bound : s.lcdOff ≤ 63) (chars : List Byte) {a : Nat}
    (inText : a < (s.lcdWhole chars).length) :
    (s.lcdWhole chars)[a]? =
      if s.lcdOff ≤ a ∧ a < (s.lcdWhole chars).length then (s.lcdKept chars)[a - s.lcdOff]? else s.lcd[a]? := by
  have oldLength : (s.lcd.toList.take s.lcdOff).length = s.lcdOff := by
    rw [List.length_take, Vector.length_toList]; omega
  by_cases new : s.lcdOff ≤ a
  · rw [if_pos ⟨new, inText⟩, State.lcdWhole, List.getElem?_append_right (by omega), oldLength]
  · rw [if_neg (fun ⟨le, _⟩ => new le), State.lcdWhole, List.getElem?_append_left (by omega),
      List.getElem?_take_of_lt (by omega), Vector.getElem?_toList]

/-- R184: with a text stored up to the offset, the flush writes the terminator behind it, emits the text less its first
character under that character's sub-type, and empties the accumulator. An empty text has the terminator for its first
character, which is of no known sub-type. -/
theorem State.lcdFlush_of_text {s : State} {text : List Byte} (length : text.length = s.lcdOff)
    (stored : ∀ a, a < text.length → s.lcd[a]? = text[a]?) :
    s.lcdFlush = (.lcdText (lcdSubType (text.headD 0x00)) text.tail,
      { s with lcd := s.lcd.setIfInBounds s.lcdOff 0x00, lcdOff := 0 }) := by
  have kept (a : Nat) (ha : a < text.length) : (s.lcd.setIfInBounds s.lcdOff 0x00)[a]? = text[a]? := by
    rw [Vector.getElem?_setIfInBounds_ne (by omega), stored a ha]
  have first : (s.lcd.setIfInBounds s.lcdOff 0x00)[0] = text.headD 0x00 := by
    refine Option.some.inj ((Vector.getElem?_eq_getElem _).symm.trans ?_)
    cases text with
    | nil => rw [← length]; exact Vector.getElem?_setIfInBounds_self_of_lt (by decide)
    | cons c cs => exact kept 0 (Nat.zero_lt_succ _)
  have whole : (s.lcd.setIfInBounds s.lcdOff 0x00).toList.take s.lcdOff = text := by
    refine List.ext_getElem? fun a => ?_
    by_cases ha : a < text.length
    · rw [List.getElem?_take_of_lt (by omega), Vector.getElem?_toList, kept a ha]
    · rw [List.getElem?_eq_none (by rw [List.length_take]; omega), List.getElem?_eq_none (by omega)]
  simp only [State.lcdFlush, State.lcdText, first, whole, List.drop_one]

/-- Settles O15: the chunk is stored, the flush takes the whole text, and its event is pushed while there is room. -/
theorem finalSegmentPushesTheWholeText : Obligations.FinalSegmentPushesTheWholeText := by
  unfold Obligations.FinalSegmentPushesTheWholeText
  intro unk c0 c1 c2 c3 c4 c5 c6 s bound chunk kept whole b sub
  obtain ⟨l, stored, bytes⟩ := State.lcdStore_spec bound [c0, c1, c2, c3, c4, c5, c6]
  obtain ⟨length, inBuffer⟩ := State.length_lcdWhole bound [c0, c1, c2, c3, c4, c5, c6]
  rw [← length] at stored bytes
  have flush := State.lcdFlush_of_text (s := s.lcdStore [c0, c1, c2, c3, c4, c5, c6]) (text := whole)
    (by rw [stored]; rfl) (fun a ha => by rw [stored]; exact (bytes a).trans (State.getElem?_lcdWhole bound _ ha).symm)
  have subType : lcdSubType (whole.headD 0x00) = sub := lcdSubType_eq b
  rw [subType, stored] at flush
  refine ⟨l.setIfInBounds whole.length 0x00, ?_, fun a => ?_⟩
  · simp only [exec, execLcd, if_true, stored, flush]
    rw [State.packetDone_event]
    · rfl
    · exact nofun
  · by_cases terminator : a = whole.length
    · rw [if_pos terminator, terminator]
      exact Vector.getElem?_setIfInBounds_self_of_lt (by exact Nat.lt_succ_of_le inBuffer)
    · rw [if_neg terminator, Vector.getElem?_setIfInBounds_ne (Ne.symm terminator)]
      exact bytes a

end Sys2Proof.Machine

/-! PROOF. The Message Decode Loop outside its packets: how `decodeNext` starts a decode (R212, R316), what a drained byte does
(R216), and how the checksum byte ends a decode (R217). -/

namespace Sys2Proof.Machine

/-! ## The iteration that a main turn is (R213, R216, R217) -/

/-- A main turn in the decode phase, of the schedule or by default, is an iteration of the loop. -/
theorem State.step_eq_decodeStep {r s : State} (sees : r.mainSees s) (decoding : s.activity = .decoding) :
    step r = s.decodeStep := by
  rw [State.step_of_mainSees sees, State.mainTurn, decoding]

/-- R216: within the budget, before a terminator and draining, an iteration of the loop is a drained byte. -/
theorem State.decodeStep_of_draining {s : State} (noTerm : s.termSeen = false) (budget : s.cursor < 10)
    (draining : s.draining = true) : s.decodeStep = s.drainStep := by
  simp [State.decodeStep, Config.msgBudget, noTerm, budget.not_ge, draining]

/-- R214, R217: after a terminator, or with the budget used up, it is the checksum byte. -/
theorem State.decodeStep_of_ended {s : State} (ended : s.termSeen = true ∨ 10 ≤ s.cursor) :
    s.decodeStep = s.checksumStep := by
  have leaves : (s.termSeen || decide (Config.msgBudget ≤ s.cursor)) = true :=
    (Bool.or_eq_true _ _).mpr (ended.imp_right decide_eq_true)
  rw [State.decodeStep, if_pos leaves]

/-! ## A drained byte (R216) -/

/-- R154, R216: the byte enters the checksum and is counted. -/
theorem State.drainStep_of_takeByte {s s1 : State} {b : Byte} (taken : s.takeByte = some (b, s1)) :
    s.drainStep = .next { s1 with csum := s1.csum ^^^ b, cursor := s1.cursor + 1 } := by
  simp only [State.drainStep, State.readByte, taken]
  rfl

/-- Settles O21: the iteration is a drained byte, which is XORed and counted. -/
theorem drainedByteIsOnlyCounted : Obligations.DrainedByteIsOnlyCounted := by
  unfold Obligations.DrainedByteIsOnlyCounted
  intro r s s1 b sees decoding noTerm budget draining taken
  rw [State.step_eq_decodeStep sees decoding, State.decodeStep_of_draining noTerm budget draining]
  exact State.drainStep_of_takeByte taken

/-! ## The end of a decode (R217, R239, R316) -/

/-- R239, R316: the main context is idle again; a decode of a captured message answers true, a polled one nothing. -/
theorem State.endDecode_eq (s : State) :
    s.endDecode = { s with
      activity := .idle, results := if s.src = .bus then s.results else s.results ++ [.decoded true] } := by
  cases source : s.src with
  | bus => simp only [State.endDecode, source, if_true]
  | captured m => simp only [State.endDecode, State.respond, source, reduceCtorEq, if_false]

/-- Settles O22: the iteration is the checksum byte, after which the decode ends with the verdict stored. -/
theorem checksumByteStoresTheVerdict : Obligations.ChecksumByteStoresTheVerdict := by
  unfold Obligations.ChecksumByteStoresTheVerdict
  intro r s s1 k sees decoding ended taken
  rw [State.step_eq_decodeStep sees decoding, State.decodeStep_of_ended ended, State.checksumStep_of_takeByte taken,
    State.endDecode_eq, checksumFails_eq_decide]

/-! ## The start of a decode (R212, R316) -/

/-- R310: the main turn of an idle main context, of the schedule or by default, is the next host command. -/
theorem State.step_eq_hostCommand {r s : State} {c : Command} {cs : List Command} (sees : r.mainSees s)
    (idle : s.activity = .idle) (next : s.cmds = c :: cs) : step r = State.hostCommand { s with cmds := cs } c := by
  rw [State.step_of_mainSees sees, State.mainTurn, idle]
  simp only [next]

theorem State.hostCommand_decodeNext {s : State} (edge : s.cfg.variant = .edgeDriven) :
    s.hostCommand .decodeNext = .next s.decodeNext := by
  simp only [State.hostCommand, edge]

/-- R64: with the head inside the queue, the message at the head is the one in its slot. -/
theorem State.cmqFront_eq_getElem {s : State} (head : s.cmqHead < 10) : s.cmqFront = s.cmq[s.cmqHead] := by
  rw [State.cmqFront, Vector.getElem?_eq_getElem head, Option.getD_some]

/-- Settles O47: an empty queue is answered; else the message in the head's slot leaves the queue, and its decode starts. -/
theorem decodeNextTakesTheOldestMessage : Obligations.DecodeNextTakesTheOldestMessage := by
  unfold Obligations.DecodeNextTakesTheOldestMessage
  intro r s cs edge sees idle next
  rw [State.step_eq_hostCommand sees idle next, State.hostCommand_decodeNext (by exact edge)]
  obtain ⟨empty, answered⟩ | ⟨waiting, started⟩ := State.decodeNext_cases { s with cmds := cs }
  · exact ⟨fun _ => congrArg Host.Outcome.next answered, fun nonempty => absurd empty nonempty⟩
  · refine ⟨fun empty => absurd empty waiting.ne', fun _ head => ?_⟩
    rw [started, State.cmqFront_eq_getElem (by exact head)]
    rfl

end Sys2Proof.Machine

/-! PROOF. The polled call phase by phase: its first two pulses (R232, R233), the remote header it writes (R234), and the player
header on which it branches (R236, R237), with the drain of the Outbound Buffer (R296). -/

namespace Sys2Proof.Machine

/-! ## The branch decision (R98, R237) -/

theorem State.branch_eq_initialization {s : State} (fresh : s.isInitialized = false) : s.branch = .initialization := by
  simp [State.branch, fresh]

theorem State.branch_eq_playerMessage {s : State} (ready : s.isInitialized = true) (data : s.flagsByte.getLsbD 0 = false)
    (keep : s.flagsByte.getLsbD 4 = false) : s.branch = .playerMessage := by
  rw [State.branch, hasData, cedeBus, ready, data, keep]
  rfl

theorem State.branch_eq_outboundDrain {s : State} (ready : s.isInitialized = true) (cede : s.flagsByte.getLsbD 4 = true)
    (staged : s.hasOutboundData = true) : s.branch = .outboundDrain := by
  simp [State.branch, cedeBus, ready, cede, staged]

theorem State.branch_eq_nothing {s : State} (ready : s.isInitialized = true)
    (other : s.flagsByte.getLsbD 4 = true ∧ s.hasOutboundData = false ∨
      s.flagsByte.getLsbD 4 = false ∧ s.flagsByte.getLsbD 0 = true) : s.branch = .nothing := by
  obtain ⟨cede, unstaged⟩ | ⟨keep, noData⟩ := other
  · simp [State.branch, cedeBus, ready, cede, unstaged]
  · rw [State.branch, hasData, cedeBus, ready, keep, noData]
    rfl

/-! ## The drain of the Outbound Buffer (R296) -/

theorem outBits_add (buf : Vector Byte 11) (m n : Nat) :
    outBits buf (m + n) = outBits buf m ++ (List.range n).map fun i => getBit buf (m + i) := by
  rw [outBits, List.range_add, List.map_append, List.map_map]
  rfl

/-- R61: bit `8 * j + i` of the buffer is bit `i` of its byte `j`, so fewer than nine bits from there on are that byte's. -/
theorem map_getBit_byte (buf : Vector Byte 11) (j : Nat) {n : Nat} (hn : n ≤ 8) :
    ((List.range n).map fun i => getBit buf (8 * j + i)) = (List.range n).map fun i => (buf[j]?.getD 0).getLsbD i :=
  List.map_congr_left fun i hi => (getLsbD_of_getBit buf j i ((List.mem_range.mp hi).trans_le hn)).symm

theorem outBits_wholeBytes (buf : Vector Byte 11) (n : Nat) :
    outBits buf (8 * n) = (List.range n).flatMap fun j => byteBits (buf[j]?.getD 0) := by
  induction n with
  | zero => rfl
  | succ n ih =>
    rw [Nat.mul_succ, outBits_add, ih, map_getBit_byte buf n le_rfl, List.range_succ (n := n), List.flatMap_append,
      List.flatMap_singleton, byteBits]

/-- R296: the whole bytes and the trailing partial byte are together the first `n` bits in queue order. -/
theorem outBits_eq_wholeBytes_append_partial (buf : Vector Byte 11) (n : Nat) :
    outBits buf n = ((List.range (n / 8)).flatMap fun j => byteBits (buf[j]?.getD 0)) ++
      (List.range (n % 8)).map fun i => (buf[n / 8]?.getD 0).getLsbD i := by
  have partialByte : n % 8 ≤ 8 := (Nat.mod_lt n (by decide)).le
  rw [← outBits_wholeBytes, ← map_getBit_byte buf (n / 8) partialByte, ← outBits_add, Nat.div_add_mod]

/-- R296: the staged bits are written in queue order, then the Outbound Buffer is empty and the flag is low. -/
theorem State.drainOutbound_eq (s : State) :
    s.drainOutbound = { s with
      tx := s.tx ++ outBits s.out s.outCursor, out := zeroBuf, outCursor := 0, hasOutboundData := false } := by
  rw [outBits_eq_wholeBytes_append_partial]
  rfl

/-! ## The player header (R236, R237) -/

theorem State.step_eq_polledPlayerHeader {r s : State} (sees : r.mainSees s) (phase : s.activity = .playerHeader) :
    step r = s.polledPlayerHeader := by
  rw [State.step_of_mainSees sees, State.mainTurn, phase]

theorem State.polledPlayerHeader_of_read {s : State} {f : Byte} {ps : List Nat}
    (read : readBusByte s.cfg.ranges s.pulses = some (f, ps)) :
    s.polledPlayerHeader = .next (State.polledBranch { s with pulses := ps, flagsByte := f }) := by
  simp only [State.polledPlayerHeader, read]

/-- R237: what the call does on the flags byte it has read; bit 0 low is 'has data', bit 4 high is 'cede bus' (R102). -/
theorem State.polledBranch_decides (s : State) :
    (s.isInitialized = false →
      s.polledBranch = { s with isInitialized := true, isReadyForText := true, activity := .idle }) ∧
    (s.isInitialized = true → s.flagsByte.getLsbD 0 = false → s.flagsByte.getLsbD 4 = false →
      s.polledBranch = s.startDecode .bus) ∧
    (s.isInitialized = true → s.flagsByte.getLsbD 4 = true → s.hasOutboundData = true →
      s.polledBranch = { s with
        tx := s.tx ++ outBits s.out s.outCursor, out := zeroBuf, outCursor := 0, hasOutboundData := false,
        activity := .idle }) ∧
    (s.isInitialized = true → (s.flagsByte.getLsbD 4 = true ∧ s.hasOutboundData = false ∨
        s.flagsByte.getLsbD 4 = false ∧ s.flagsByte.getLsbD 0 = true) →
      s.polledBranch = { s with activity := .idle }) := by
  refine ⟨fun fresh => ?_, fun ready data keep => ?_, fun ready cede staged => ?_, fun ready other => ?_⟩
  · simp only [State.polledBranch, State.branch_eq_initialization fresh, State.runInitialization]
  · simp only [State.polledBranch, State.branch_eq_playerMessage ready data keep]
  · simp only [State.polledBranch, State.branch_eq_outboundDrain ready cede staged, State.drainOutbound_eq]
  · simp only [State.polledBranch, State.branch_eq_nothing ready other]

/-- Settles O41: the eight cells are read as the flags byte, whose bits 0 and 4 pick the branch. -/
theorem polledPlayerHeaderDecides : Obligations.PolledPlayerHeaderDecides := by
  unfold Obligations.PolledPlayerHeaderDecides
  intro r s p0 p1 p2 p3 p4 p5 p6 p7 ps sees phase pulses
  obtain ⟨f, read, bits⟩ := readBusByte_spec s.cfg.ranges (ps := s.pulses) (by simp [pulses])
  rw [pulses] at bits
  have bit0 : f.getLsbD 0 = dataBit s.cfg.ranges p0 := bits 0 (by decide)
  have bit4 : f.getLsbD 4 = dataBit s.cfg.ranges p4 := bits 4 (by decide)
  have left : s.pulses.drop 8 = ps := by rw [pulses]; rfl
  rw [left] at read
  obtain ⟨initialises, decodes, drains, returns⟩ := State.polledBranch_decides { s with pulses := ps, flagsByte := f }
  rw [State.step_eq_polledPlayerHeader sees phase, State.polledPlayerHeader_of_read read, ← bit0, ← bit4]
  refine ⟨f, fun j hj => ?_, fun fresh => congrArg _ (initialises fresh),
    fun ready data keep => congrArg _ (decodes ready data keep),
    fun ready cede staged _ => congrArg _ (drains ready cede staged),
    fun ready other => congrArg _ (returns ready other)⟩
  rw [bits j hj]
  interval_cases j <;> rfl

/-! ## The first and the second pulse (R232, R233) -/

theorem State.polledPresync_of_pulse {s : State} {d : Nat} {ps : List Nat} (next : s.pulses = d :: ps) :
    (classifyStart s.cfg.ranges d = .presyncReset →
      s.polledPresync = .next (State.raiseError { s with pulses := ps } .protocolReset)) ∧
    (classifyStart s.cfg.ranges d = .presync →
      s.polledPresync = .next { s with pulses := ps, activity := .awaitSync }) ∧
    (classifyStart s.cfg.ranges d = .invalid →
      s.polledPresync = .next (State.raiseError { s with pulses := ps } .timingError)) := by
  refine ⟨fun symbol => ?_, fun symbol => ?_, fun symbol => ?_⟩
  all_goals simp only [State.polledPresync, State.takePulse, next, symbol]

theorem State.polledSync_of_pulse {s : State} {d : Nat} {ps : List Nat} (next : s.pulses = d :: ps) :
    (classifySync s.cfg.ranges d = .sync →
      s.polledSync = .next { s with pulses := ps, activity := .remoteHeader }) ∧
    (classifySync s.cfg.ranges d = .invalid →
      s.polledSync = .next (State.raiseError { s with pulses := ps } .timingError)) := by
  refine ⟨fun symbol => ?_, fun symbol => ?_⟩
  all_goals simp only [State.polledSync, State.takePulse, next, symbol]

theorem State.step_eq_polledPresync {r s : State} (sees : r.mainSees s) (phase : s.activity = .awaitPresync) :
    step r = s.polledPresync := by
  rw [State.step_of_mainSees sees, State.mainTurn, phase]

theorem State.step_eq_polledSync {r s : State} (sees : r.mainSees s) (phase : s.activity = .awaitSync) :
    step r = s.polledSync := by
  rw [State.step_of_mainSees sees, State.mainTurn, phase]

theorem State.hostCommand_pollFrame {s : State} (polled : s.cfg.variant = .polled) :
    s.hostCommand .pollFrame = .next { s with activity := .awaitPresync } := by
  simp only [State.hostCommand, polled]

/-- Settles O39: the command starts the call; a pulse goes on to the next phase, resets the session, or ends the call. -/
theorem polledFirstAndSecondPulse : Obligations.PolledFirstAndSecondPulse := by
  unfold Obligations.PolledFirstAndSecondPulse
  refine ⟨fun r s cs polled sees idle next => ?_, fun r s d ps polled sees next => ?_⟩
  · rw [State.step_eq_hostCommand sees idle next, State.hostCommand_pollFrame (by exact polled)]
  obtain ⟨onReset, onPresync, onOther⟩ := State.polledPresync_of_pulse next
  obtain ⟨onSync, onNoSync⟩ := State.polledSync_of_pulse next
  refine ⟨fun phase reset => ?_, fun phase noReset presync => ?_, fun phase noReset noPresync => ?_,
    fun phase sync => ?_, fun phase noSync => ?_⟩
  · rw [State.step_eq_polledPresync sees phase, onReset ((classifyStart_eq_presyncReset_iff _ d).mpr reset),
      State.raiseError_reset_polled _ (by exact polled)]
    rfl
  · rw [State.step_eq_polledPresync sees phase, onPresync ((classifyStart_eq_presync_iff _ d).mpr ⟨noReset, presync⟩)]
  · rw [State.step_eq_polledPresync sees phase, onOther ((classifyStart_eq_invalid_iff _ d).mpr ⟨noReset, noPresync⟩),
      State.raiseError_timing_polled _ (by exact polled)]
  · rw [State.step_eq_polledSync sees phase,
      onSync ((classifySync_eq_sync_iff _ d).mpr ((inRange_eq_true_iff d _).mp sync))]
  · rw [State.step_eq_polledSync sees phase,
      onNoSync ((classifySync_eq_invalid_iff _ d).mpr ((inRange_eq_false_iff d _).mp noSync)),
      State.raiseError_timing_polled _ (by exact polled)]

/-! ## The remote header (R100, R234) -/

/-- R100: the remote header in wire order. -/
theorem byteBits_remoteHeader (ready outbound init : Bool) :
    byteBits (remoteHeader ready outbound init) = [false, false, ready, false, false, outbound, false, init] :=
  calc byteBits (remoteHeader ready outbound init)
    _ = (List.range 8).map fun i => [false, false, ready, false, false, outbound, false, init].getD i false :=
      List.map_congr_left fun _ hi => getLsbD_remoteHeader ready outbound init (Nat.le_of_lt_succ (List.mem_range.mp hi))
    _ = _ := rfl

theorem State.polledRemoteHeader_eq (s : State) :
    s.polledRemoteHeader = { s with
      tx := s.tx ++ [false, false, s.isReadyForText, false, false, s.hasOutboundData, false, s.isInitialized],
      activity := .playerHeader } := by
  rw [State.polledRemoteHeader, State.writeByte, State.remoteHeaderNow, byteBits_remoteHeader]
  rfl

/-- Settles O40: the main turn of this phase writes the header byte bit by bit and goes on. -/
theorem polledRemoteHeaderIsWritten : Obligations.PolledRemoteHeaderIsWritten := by
  unfold Obligations.PolledRemoteHeaderIsWritten
  intro r s sees phase
  rw [State.step_of_mainSees sees, State.mainTurn, phase]
  exact congrArg Host.Outcome.next s.polledRemoteHeader_eq

end Sys2Proof.Machine

/-! PROOF. The edge-driven framer pulse by pulse: the edges that make a pulse (R251, R252), noise and the presync (R254, R255),
the first two pulses of a frame (R256, R257), the decision on the player header (R260), a message bit in (R262, R263) and an
outbound bit out (R261), and what no pulse does while the noise bound lies below the reset range (R267). -/

namespace Sys2Proof.Machine

/-! ## Edges (R251, R252, R375) -/

theorem State.hostCommand_registerEdgeCallback {s : State} (edge : s.cfg.variant = .edgeDriven) :
    s.hostCommand .registerEdgeCallback = .next { s with edgeEnabled := true } := by
  simp only [State.hostCommand, edge]

/-- R341, R375: before the registration, and in the polled variant, an interrupt turn takes no edge. -/
theorem State.interruptTurn_of_inert {s : State} (inert : s.edgeEnabled = false ∨ s.cfg.variant = .polled) :
    s.interruptTurn = s := by
  obtain ⟨_, _, edge, enabled, -, -⟩ | ⟨-, nothing⟩ := s.interruptTurn_cases
  · simp [edge, enabled] at inert
  · exact nothing

theorem State.interruptTurn_of_edge {s : State} {dt : Nat} {es : List Nat} (edge : s.cfg.variant = .edgeDriven)
    (enabled : s.edgeEnabled = true) (next : s.edges = dt :: es) :
    s.interruptTurn = State.lineEdge dt { s with edges := es } := by
  simp only [State.interruptTurn, edge, enabled, next]

/-- Settles O29: the registration is one host command, and a registered interrupt turn is the next edge, which begins a pulse
or closes one. -/
theorem risingEdgeClosesAPulse : Obligations.RisingEdgeClosesAPulse := by
  unfold Obligations.RisingEdgeClosesAPulse
  refine ⟨fun r s cs edge sees idle next => ?_, fun r s sees inert => ?_, fun r s dt es edge enabled sees next => ?_⟩
  · rw [State.step_eq_hostCommand sees idle next, State.hostCommand_registerEdgeCallback (by exact edge)]
  · rw [State.step_of_interruptSees sees, State.interruptTurn_of_inert inert]
  rw [State.step_of_interruptSees sees, State.interruptTurn_of_edge edge enabled next]
  obtain ⟨low, closes⟩ | ⟨high, begins⟩ := State.lineEdge_cases { s with edges := es } dt
  · exact ⟨fun high => absurd (high.symm.trans low) (by decide), fun _ => congrArg Host.Outcome.next closes⟩
  · exact ⟨fun _ => congrArg Host.Outcome.next begins, fun low => absurd (high.symm.trans low) (by decide)⟩

/-! ## Noise and the presync (R254, R255) -/

theorem State.onPulse_of_noise {s : State} {d : Nat} (noise : s.cfg.noiseMaxUs < d) : s.onPulse d = s :=
  if_pos noise

theorem State.onPulse_of_presync {s : State} {d : Nat} (heard : d ≤ s.cfg.noiseMaxUs)
    (presync : inRange d s.cfg.ranges.presync = true) : s.onPulse d = { s with state := .beforeSync, bitIdx := 0 } :=
  (if_neg heard.not_gt).trans (if_pos presync)

/-- Settles O30: the noise bound is tested first. -/
theorem noiseChangesNothing : Obligations.NoiseChangesNothing := fun _ _ => State.onPulse_of_noise

/-- Settles O31: the presync test comes before the state is looked at. -/
theorem presyncResynchronisesInEveryState : Obligations.PresyncResynchronisesInEveryState :=
  fun _ _ => State.onPulse_of_presync

/-! ## The first and the second pulse (R256, R257) -/

/-- R253, R256: in `AwaitingMessage` a pulse that is neither noise nor a presync can only be a reset or a stray. -/
theorem State.onPulse_awaitingMessage {s : State} {d : Nat} (waiting : s.state = .awaitingMessage)
    (heard : d ≤ s.cfg.noiseMaxUs) (noPresync : inRange d s.cfg.ranges.presync = false) :
    s.onPulse d = s.onAwaiting d := by
  simp [State.onPulse, waiting, heard.not_gt, noPresync]

/-- R253, R257: in `BeforeSync` a pulse that is neither noise nor a presync is tested for the sync. -/
theorem State.onPulse_beforeSync {s : State} {d : Nat} (synced : s.state = .beforeSync)
    (heard : d ≤ s.cfg.noiseMaxUs) (noPresync : inRange d s.cfg.ranges.presync = false) :
    s.onPulse d = s.onBeforeSync d := by
  simp [State.onPulse, synced, heard.not_gt, noPresync]

theorem State.onAwaiting_of_reset {s : State} {d : Nat} (edge : s.cfg.variant = .edgeDriven)
    (reset : inRange d s.cfg.ranges.presyncReset = true) : s.onAwaiting d = s.sessionReset := by
  rw [State.onAwaiting, if_pos reset, State.raiseError_reset_edge s edge]

theorem State.onAwaiting_of_stray {s : State} {d : Nat} (edge : s.cfg.variant = .edgeDriven)
    (noReset : inRange d s.cfg.ranges.presyncReset = false) : s.onAwaiting d = s.frameReset := by
  rw [State.onAwaiting, if_neg (Bool.eq_false_iff.mp noReset), State.raiseError_timing_edge s edge]

theorem State.onBeforeSync_of_sync {s : State} {d : Nat} (sync : inRange d s.cfg.ranges.sync = true) :
    s.onBeforeSync d = { s with state := .inRemoteHeader, bitIdx := 0 } :=
  if_pos sync

theorem State.onBeforeSync_of_stray {s : State} {d : Nat} (edge : s.cfg.variant = .edgeDriven)
    (noSync : inRange d s.cfg.ranges.sync = false) : s.onBeforeSync d = s.frameReset := by
  rw [State.onBeforeSync, if_neg (Bool.eq_false_iff.mp noSync), State.raiseError_timing_edge s edge]

/-- Settles O32: the pulse resets the session, moves the frame on, or ends it. -/
theorem firstAndSecondPulse : Obligations.FirstAndSecondPulse := by
  unfold Obligations.FirstAndSecondPulse
  intro s d edge heard noPresync
  refine ⟨fun waiting reset => ?_, fun waiting noReset => ?_, fun synced sync => ?_, fun synced noSync => ?_⟩
  · rw [State.onPulse_awaitingMessage waiting heard noPresync, State.onAwaiting_of_reset edge reset]
    rfl
  · rw [State.onPulse_awaitingMessage waiting heard noPresync, State.onAwaiting_of_stray edge noReset]
    rfl
  · rw [State.onPulse_beforeSync synced heard noPresync, State.onBeforeSync_of_sync sync]
  · rw [State.onPulse_beforeSync synced heard noPresync, State.onBeforeSync_of_stray edge noSync]
    rfl

/-! ## The decision on the player header (R102, R260) -/

/-- R260: what the framer does on the flags byte it has gathered; bit 0 low is 'has data', bit 4 high is 'cede bus'
(R102). -/
theorem State.edgeDecide_decides (s : State) :
    (s.isInitialized = false → s.edgeDecide = s.runInitialization.frameReset) ∧
    (s.isInitialized = true → s.flagsByte.getLsbD 0 = false → s.flagsByte.getLsbD 4 = false →
      s.edgeDecide = { s with msg := zeroBuf, state := .playerSending, bitIdx := 0 }) ∧
    (s.isInitialized = true → s.flagsByte.getLsbD 4 = true → s.hasOutboundData = true →
      s.edgeDecide = { s with state := .remoteSending, bitIdx := 0 }) ∧
    (s.isInitialized = true → (s.flagsByte.getLsbD 4 = true ∧ s.hasOutboundData = false ∨
        s.flagsByte.getLsbD 4 = false ∧ s.flagsByte.getLsbD 0 = true) →
      s.edgeDecide = s.frameReset) := by
  refine ⟨fun fresh => ?_, fun ready data keep => ?_, fun ready cede staged => ?_, fun ready other => ?_⟩
  · simp only [State.edgeDecide, State.branch_eq_initialization fresh]
  · simp only [State.edgeDecide, State.branch_eq_playerMessage ready data keep]
  · simp only [State.edgeDecide, State.branch_eq_outboundDrain ready cede staged]
  · simp only [State.edgeDecide, State.branch_eq_nothing ready other]

/-- R259, R260: bit 7 completes the flags byte, and the frame branches on it. -/
theorem State.onPlayerHeader_of_last {s : State} (d : Nat) (last : s.bitIdx = 7) :
    ∃ f : Byte,
      (∀ j, f.getLsbD j = (s.flagsByte.getLsbD j || (decide (j = 7) && dataBit s.cfg.ranges d))) ∧
      s.onPlayerHeader d = State.edgeDecide { s with flagsByte := f, bitIdx := 8 } := by
  refine ⟨s.flagsByte ||| bitAt (dataBit s.cfg.ranges d) 7, fun j => ?_, by simp [State.onPlayerHeader, last]⟩
  rw [BitVec.getLsbD_or, getLsbD_bitAt _ _ _ (by decide), Bool.and_comm, decide_eq_decide.mpr eq_comm]

/-- Settles O35: the eighth bit leaves bits 0 and 4 of the flags byte as they were, and these pick the branch. -/
theorem eighthHeaderBitDecides : Obligations.EighthHeaderBitDecides := by
  unfold Obligations.EighthHeaderBitDecides
  intro s d heard noPresync phase last
  obtain ⟨f, bits, decides⟩ := State.onPlayerHeader_of_last d last
  have bit0 : f.getLsbD 0 = s.flagsByte.getLsbD 0 := (bits 0).trans (Bool.or_false _)
  have bit4 : f.getLsbD 4 = s.flagsByte.getLsbD 4 := (bits 4).trans (Bool.or_false _)
  rw [State.onPulse_inPlayerHeader phase heard noPresync, decides, ← bit0, ← bit4]
  exact ⟨f, fun j _ => bits j, State.edgeDecide_decides { s with flagsByte := f, bitIdx := 8 }⟩

/-! ## A message bit in (R262, R263) -/

/-- R262, R263: bit 87 completes the message, which a full queue drops and reports. -/
theorem State.onPlayerSending_of_last_full {s : State} (d : Nat) (last : s.bitIdx + 1 = 88) (full : 10 ≤ s.cmqLen) :
    s.onPlayerSending d = { s with
      state := .awaitingMessage, bitIdx := 0, msg := orBit s.msg s.bitIdx (dataBit s.cfg.ranges d),
      diags := s.diags ++ [.queueOverflow] } := by
  simp only [State.onPlayerSending, Config.msgBits, last, if_true]
  rw [State.enqueueCompleted_of_full (by exact full)]
  rfl

/-- Settles O36: the bit is ORed in at `bitIdx`, and after the 88th the message is queued or dropped. -/
theorem playerMessageBitIsStored : Obligations.PlayerMessageBitIsStored := by
  unfold Obligations.PlayerMessageBitIsStored
  intro s d heard noPresync sending inMessage
  rw [State.onPulse_playerSending sending heard noPresync]
  refine ⟨orBit s.msg s.bitIdx (dataBit s.cfg.ranges d), fun k => ?_,
    fun more => State.onPlayerSending_of_more d (by omega),
    fun last room => State.onPlayerSending_of_last d (by omega) room,
    fun last full => State.onPlayerSending_of_last_full d (by omega) full⟩
  rw [getBit_orBit _ _ _ _ (by omega), Bool.and_comm, decide_eq_decide.mpr eq_comm]

/-! ## An outbound bit out (R261, R297) -/

/-- R253, R261: in `RemoteSending` a pulse that is neither noise nor a presync clocks an outbound bit out. -/
theorem State.onPulse_remoteSending {s : State} {d : Nat} (sending : s.state = .remoteSending)
    (heard : d ≤ s.cfg.noiseMaxUs) (noPresync : inRange d s.cfg.ranges.presync = false) :
    s.onPulse d = s.onRemoteSending := by
  simp [State.onPulse, sending, heard.not_gt, noPresync]

theorem State.onRemoteSending_of_more {s : State} (more : s.bitIdx ≠ 87) :
    s.onRemoteSending = { s with tx := s.tx ++ [getBit s.out s.bitIdx], bitIdx := s.bitIdx + 1 } := by
  have notLast : s.bitIdx + 1 ≠ Config.msgBits := by simpa [Config.msgBits] using more
  exact if_neg notLast

/-- R261, R297: after bit 87 the Outbound Buffer is empty, the flag is low and the frame ends. -/
theorem State.onRemoteSending_of_last {s : State} (last : s.bitIdx = 87) :
    s.onRemoteSending = { s with
      tx := s.tx ++ [getBit s.out 87], out := zeroBuf, outCursor := 0, hasOutboundData := false,
      state := .awaitingMessage, bitIdx := 0 } := by
  simp only [State.onRemoteSending, last, Config.msgBits, if_true]
  rfl

/-- Settles O37: bit `bitIdx` of `OUT` is written, and bit 87 is the last. -/
theorem outboundBitIsSent : Obligations.OutboundBitIsSent := by
  unfold Obligations.OutboundBitIsSent
  intro s d heard noPresync sending
  rw [State.onPulse_remoteSending sending heard noPresync]
  exact ⟨fun more => State.onRemoteSending_of_more more.ne, State.onRemoteSending_of_last⟩

/-! ## No session reset below the noise bound (R267) -/

/-- From `s` to `t` the session went on: neither session flag fell, and the outbound state is untouched. -/
structure State.KeepsSession (s t : State) : Prop where
  initialized : s.isInitialized = true → t.isInitialized = true
  ready : s.isReadyForText = true → t.isReadyForText = true
  hasOutboundData_eq : t.hasOutboundData = s.hasOutboundData
  out_eq : t.out = s.out
  outCursor_eq : t.outCursor = s.outCursor

theorem State.KeepsSession.refl (s : State) : s.KeepsSession s := ⟨id, id, rfl, rfl, rfl⟩

theorem State.keepsSession_frameReset (s : State) : s.KeepsSession s.frameReset := ⟨id, id, rfl, rfl, rfl⟩

/-- R374: an initialisation raises the flags, and no branch of the decision touches the outbound state. -/
theorem State.keepsSession_edgeDecide (s : State) : s.KeepsSession s.edgeDecide := by
  obtain h | h | ⟨-, h⟩ | h := s.edgeDecide_cases
  · rw [h]; exact ⟨fun _ => rfl, fun _ => rfl, rfl, rfl, rfl⟩
  all_goals rw [h]; exact ⟨id, id, rfl, rfl, rfl⟩

theorem State.keepsSession_onBeforeSync {s : State} (d : Nat) (edge : s.cfg.variant = .edgeDriven) :
    s.KeepsSession (s.onBeforeSync d) := by
  obtain h | h := s.onBeforeSync_cases d
  · rw [h]; exact ⟨id, id, rfl, rfl, rfl⟩
  · rw [h, State.raiseError_timing_edge s edge]; exact s.keepsSession_frameReset

theorem State.keepsSession_onRemoteHeader (s : State) : s.KeepsSession s.onRemoteHeader := by
  obtain ⟨_, ⟨-, h⟩ | ⟨-, h⟩⟩ := s.onRemoteHeader_cases
  all_goals rw [h]; exact ⟨id, id, rfl, rfl, rfl⟩

theorem State.keepsSession_onPlayerHeader (s : State) (d : Nat) : s.KeepsSession (s.onPlayerHeader d) := by
  obtain ⟨f, ⟨-, h⟩ | ⟨-, h⟩⟩ := s.onPlayerHeader_cases d
  · rw [h]
    obtain ⟨initialized, ready, flag, out, cursor⟩ :=
      State.keepsSession_edgeDecide { s with flagsByte := f, bitIdx := s.bitIdx + 1 }
    exact ⟨initialized, ready, flag, out, cursor⟩
  · rw [h]; exact ⟨id, id, rfl, rfl, rfl⟩

theorem State.keepsSession_enqueueCompleted (s : State) : s.KeepsSession s.enqueueCompleted := by
  obtain ⟨-, h⟩ | ⟨-, h⟩ := s.enqueueCompleted_cases
  all_goals rw [h]; exact ⟨id, id, rfl, rfl, rfl⟩

theorem State.keepsSession_onPlayerSending (s : State) (d : Nat) : s.KeepsSession (s.onPlayerSending d) := by
  obtain ⟨b, ⟨-, h⟩ | ⟨-, h⟩⟩ := s.onPlayerSending_cases d
  · rw [h]
    obtain ⟨initialized, ready, flag, out, cursor⟩ := State.keepsSession_enqueueCompleted
      { s with msg := orBit s.msg s.bitIdx b, bitIdx := s.bitIdx + 1 }
    exact ⟨initialized, ready, flag, out, cursor⟩
  · rw [h]; exact ⟨id, id, rfl, rfl, rfl⟩

/-- R254, R267: a pulse that is not noise is too short for the reset range. -/
theorem State.keepsSession_onAwaiting {s : State} {d : Nat} (edge : s.cfg.variant = .edgeDriven)
    (heard : d ≤ s.cfg.noiseMaxUs) (below : s.cfg.noiseMaxUs < s.cfg.ranges.presyncReset.lo) :
    s.KeepsSession (s.onAwaiting d) := by
  have noReset : inRange d s.cfg.ranges.presyncReset = false := (inRange_eq_false_iff _ _).mpr (by omega)
  rw [State.onAwaiting_of_stray edge noReset]
  exact s.keepsSession_frameReset

/-- R261, R267: a pulse keeps the session, or it sends the 88th outbound bit. -/
theorem State.onPulse_keepsSession_or_sends {s : State} (d : Nat) (edge : s.cfg.variant = .edgeDriven)
    (below : s.cfg.noiseMaxUs < s.cfg.ranges.presyncReset.lo) :
    s.KeepsSession (s.onPulse d) ∨ (s.state = .remoteSending ∧ s.bitIdx = 87 ∧ s.onPulse d = s.onRemoteSending) := by
  obtain noise | heard := lt_or_ge s.cfg.noiseMaxUs d
  · rw [State.onPulse_of_noise noise]; exact .inl (.refl s)
  obtain h | h | ⟨-, h⟩ | ⟨-, h⟩ | ⟨-, h⟩ | ⟨-, h⟩ | ⟨-, h⟩ | ⟨sending, h⟩ := s.onPulse_cases d
  all_goals rw [h]
  · exact .inl (.refl s)
  · exact .inl ⟨id, id, rfl, rfl, rfl⟩
  · exact .inl (State.keepsSession_onAwaiting edge heard below)
  · exact .inl (State.keepsSession_onBeforeSync d edge)
  · exact .inl s.keepsSession_onRemoteHeader
  · exact .inl (s.keepsSession_onPlayerHeader d)
  · exact .inl (s.keepsSession_onPlayerSending d)
  · by_cases last : s.bitIdx = 87
    · exact .inr ⟨sending, last, rfl⟩
    · rw [State.onRemoteSending_of_more last]; exact .inl ⟨id, id, rfl, rfl, rfl⟩

/-- What R267 allows an interrupt turn from `s` to `t` to make of the session. -/
structure State.NoSessionReset (s t : State) : Prop where
  initialized : s.isInitialized = true → t.isInitialized = true
  ready : s.isReadyForText = true → t.isReadyForText = true
  outbound : t.hasOutboundData ≠ s.hasOutboundData ∨ t.out ≠ s.out ∨ t.outCursor ≠ s.outCursor →
    s.state = .remoteSending ∧ s.bitIdx = 87 ∧ ∃ b, t.tx = s.tx ++ [b]

theorem State.KeepsSession.noSessionReset {s t : State} (keeps : s.KeepsSession t) : s.NoSessionReset t := by
  obtain ⟨initialized, ready, flag, out, cursor⟩ := keeps
  exact ⟨initialized, ready, by simp [flag, out, cursor]⟩

theorem State.noSessionReset_onPulse {s : State} (d : Nat) (edge : s.cfg.variant = .edgeDriven)
    (below : s.cfg.noiseMaxUs < s.cfg.ranges.presyncReset.lo) : s.NoSessionReset (s.onPulse d) := by
  obtain keeps | ⟨sending, last, h⟩ := State.onPulse_keepsSession_or_sends d edge below
  · exact keeps.noSessionReset
  · rw [h, State.onRemoteSending_of_last last]
    exact ⟨id, id, fun _ => ⟨sending, last, _, rfl⟩⟩

theorem State.noSessionReset_interruptTurn {s : State} (edge : s.cfg.variant = .edgeDriven)
    (below : s.cfg.noiseMaxUs < s.cfg.ranges.presyncReset.lo) : s.NoSessionReset s.interruptTurn := by
  obtain ⟨dt, es, -, -, -, h⟩ | ⟨-, h⟩ := s.interruptTurn_cases
  · rw [h]
    obtain ⟨-, h⟩ | ⟨-, h⟩ := State.lineEdge_cases { s with edges := es } dt
    · rw [h]
      obtain ⟨initialized, ready, outbound⟩ := State.noSessionReset_onPulse (s.usNow + dt - s.tLast)
        (s := { s with edges := es, usNow := s.usNow + dt, lineHigh := true, tLast := s.usNow + dt }) edge below
      exact ⟨initialized, ready, outbound⟩
    · rw [h]; exact State.KeepsSession.noSessionReset ⟨id, id, rfl, rfl, rfl⟩
  · rw [h]; exact (State.KeepsSession.refl s).noSessionReset

/-- Settles O38: an interrupt turn is an edge, and the pulse it closes is noise or too short to be a reset. -/
theorem noSessionResetBelowTheNoiseBound : Obligations.NoSessionResetBelowTheNoiseBound := by
  unfold Obligations.NoSessionResetBelowTheNoiseBound
  intro r s t edge below sees h
  rw [State.step_of_interruptSees sees] at h
  obtain rfl := Host.Outcome.next.inj h
  obtain ⟨initialized, ready, outbound⟩ := State.noSessionReset_interruptTurn edge below
  exact ⟨initialized, ready, outbound⟩

end Sys2Proof.Machine

/-! PROOF. The Outbound Message Builder: what the host's commands put into the Outbound Buffer (R291 to R294, R312), the reply
to a capabilities request on an empty buffer (R302), and that a message decode sends nothing (R300, R379). -/

namespace Sys2Proof.Machine

/-! ## Bits queued by the host (R291, R292, R294) -/

/-- R67: the wire order of a byte, low behind its last bit. -/
theorem getD_byteBits (v : Byte) (i : Nat) : (byteBits v).getD i false = v.getLsbD i := by
  obtain inside | behind := lt_or_ge i 8
  · exact byteBits_getD v i inside
  · rw [List.getD_eq_default _ _ (by rwa [byteBits_length]), BitVec.getLsbD_of_ge v i behind]

/-- R292: a byte that fits lies in the buffer from the cursor on, bit 0 first, and no other bit changes. -/
theorem getBit_orBits_byteBits (buf : Vector Byte 11) {c : Nat} (v : Byte) (fits : c + 8 ≤ 88) (k : Nat) :
    getBit (orBits buf c (byteBits v)) k =
      (getBit buf k || (decide (c ≤ k ∧ k < c + 8) && v.getLsbD (k - c))) := by
  rw [getBit_orBits _ _ _ _ (by rwa [byteBits_length]), getD_byteBits]
  obtain inside | behind := lt_or_ge k (c + 8)
  · simp [inside]
  · rw [BitVec.getLsbD_of_ge v (k - c) (by omega), Bool.and_false, Bool.and_false]

/-- R291: a bit that fits is stored at the cursor. -/
theorem State.queueBit_of_room {s : State} (room : s.outCursor < 88) (b : Bool) :
    s.queueBit b = { s with out := orBit s.out s.outCursor b, outCursor := s.outCursor + 1 } := if_pos room

/-- R294: a bit that does not fit is dropped. -/
theorem State.queueBit_of_full {s : State} (full : 88 ≤ s.outCursor) (b : Bool) :
    s.queueBit b = { s with diags := s.diags ++ [.outboundOverflow] } := if_neg full.not_gt

/-- R292: a byte that fits is stored from the cursor on. -/
theorem State.queueByte_of_room {s : State} (room : s.outCursor + 8 ≤ 88) (v : Byte) :
    s.queueByte v = { s with out := orBits s.out s.outCursor (byteBits v), outCursor := s.outCursor + 8 } := if_pos room

/-- R294: a byte of which any bit does not fit is dropped whole. -/
theorem State.queueByte_of_full {s : State} (full : 88 < s.outCursor + 8) (v : Byte) :
    s.queueByte v = { s with diags := s.diags ++ [.outboundOverflow] } := if_neg full.not_ge

/-- Settles O43: the main turn is the queue operation, which writes at the cursor or is dropped. -/
theorem queuedBitsLandAtTheCursor : Obligations.QueuedBitsLandAtTheCursor := by
  unfold Obligations.QueuedBitsLandAtTheCursor
  intro r s cs v b sees idle
  refine ⟨fun next room => ?_, fun next full => ?_, fun next room => ?_, fun next full => ?_⟩
  · refine ⟨orBit s.out s.outCursor b, ?_, fun k => ?_⟩
    · rw [State.step_eq_hostCommand sees idle next]
      exact congrArg _ (State.queueBit_of_room (by exact room) b)
    · rw [getBit_orBit _ _ _ _ room, Bool.and_comm, decide_eq_decide.mpr eq_comm]
  · rw [State.step_eq_hostCommand sees idle next]
    exact congrArg _ (State.queueBit_of_full (by exact full) b)
  · refine ⟨orBits s.out s.outCursor (byteBits v), ?_, getBit_orBits_byteBits s.out v room⟩
    rw [State.step_eq_hostCommand sees idle next]
    exact congrArg _ (State.queueByte_of_room (by exact room) v)
  · rw [State.step_eq_hostCommand sees idle next]
    exact congrArg _ (State.queueByte_of_full (by exact full) v)

/-! ## A decode sends nothing (R300, R379) -/

/-- R298: from `s` to `t` no staged bit was removed from the Outbound Buffer. -/
structure State.KeepsStaged (s t : State) : Prop where
  bit : ∀ k, getBit s.out k = true → getBit t.out k = true

theorem State.KeepsStaged.of_out_eq {s t : State} (same : t.out = s.out) : s.KeepsStaged t :=
  ⟨fun _ staged => by rwa [same]⟩

theorem State.KeepsStaged.finalizeOutbound {s t : State} (kept : s.KeepsStaged t) : s.KeepsStaged t.finalizeOutbound :=
  ⟨kept.bit⟩

/-- R213: the loop's part of a packet does not write the Outbound Buffer. -/
theorem State.KeepsStaged.packetDone {s t : State} (kept : s.KeepsStaged t) (ty : Byte) (p : List Byte) (e : RemoteEvent) :
    s.KeepsStaged (t.packetDone ty p e) := by
  obtain ⟨_, _, counted⟩ := t.packetDone_frame ty p e
  rw [counted]
  exact ⟨kept.bit⟩

/-- R291: queueing ORs into the buffer. -/
theorem State.keepsStaged_queueBytes (vs : List Byte) (s : State) : s.KeepsStaged (s.queueBytes vs) := by
  refine ⟨fun k staged => ?_⟩
  have fits : (bytesBits (vs.take (s.outFit vs.length))).length ≤ 88 - s.outCursor := by
    rw [length_bytesBits, List.length_take, State.outFit]
    omega
  rw [State.queueBytes_spec]
  simp only [getBit_orBits_of_fits _ _ _ fits, staged, Bool.true_or]

/-- R173: the reply is queued, and the flag raised. -/
theorem State.keepsStaged_stageCapability (s : State) : s.KeepsStaged s.stageCapability := by
  rw [State.stageCapability]
  exact (s.keepsStaged_queueBytes _).finalizeOutbound

/-- R173: a capabilities request stages its reply behind what is there, or nothing. -/
theorem execCapreq_keepsStaged {v : Byte} {s t : State} (done : exec (.capreq v) s = .next t) : s.KeepsStaged t := by
  simp only [exec, execCapreq] at done
  split at done
  · obtain rfl := Host.Outcome.next.inj done
    exact s.keepsStaged_stageCapability.packetDone _ _ _
  · obtain rfl := Host.Outcome.next.inj done
    have logged : s.KeepsStaged (s.raiseError (.capBadPayload v)) := .of_out_eq rfl
    exact logged.packetDone _ _ _

/-- R171: no other packet writes the Outbound Buffer. -/
theorem exec_keepsStaged {i : Instr} {s t : State} (done : exec i s = .next t) : s.KeepsStaged t := by
  obtain ⟨_, _, _, _, _, _, _, rfl⟩ | ⟨v, _, _, _, rfl, -⟩ | ⟨_, _, -, _, _, _, _, _, _, _, rfl⟩ := exec_writes done
  · exact .of_out_eq rfl
  · exact execCapreq_keepsStaged done
  · exact .of_out_eq rfl

theorem State.decodeStep_keepsStaged {s t : State} (done : s.decodeStep = .next t) : s.KeepsStaged t := by
  obtain ⟨-, done⟩ | ⟨-, -, done | done⟩ := State.decodeStep_cases done
  · obtain ⟨_, _, _, _, _, taken, rfl⟩ := State.checksumStep_cases done
    obtain ⟨_, _, _, _, rfl⟩ := State.takeByte_frame taken
    exact .of_out_eq rfl
  · obtain ⟨_, _, taken, rfl⟩ := State.drainStep_cases done
    obtain ⟨_, _, _, _, rfl⟩ := State.takeByte_frame taken
    exact .of_out_eq rfl
  · obtain ⟨_, _, _, _, fetched, -, done⟩ := State.packetStep_cases done
    obtain ⟨_, _, -, -, _, _, _, _, rfl⟩ := State.fetchPacket_frame fetched
    exact ⟨(exec_keepsStaged done).bit⟩

/-- Settles O58: an iteration of the decode loop writes what is the main context's, and to the Outbound Buffer it only
adds. -/
theorem decodingSendsNothing : Obligations.DecodingSendsNothing := by
  unfold Obligations.DecodingSendsNothing
  intro r s t sees decoding done
  rw [State.step_eq_decodeStep sees decoding] at done
  have writes := State.decodeStep_mainWrites done
  exact ⟨writes.keeps State.tx, writes.outCursor_le, writes.outbound, (State.decodeStep_keepsStaged done).bit⟩

/-! ## The capability reply from an empty buffer (R302) -/

/-- R62: a buffer is its 88 bits. -/
theorem eq_of_getBit_eq {a b : Vector Byte 11} (same : ∀ k, getBit a k = getBit b k) : a = b := by
  ext j hj i hi
  have bit := same (8 * j + i)
  rw [← getLsbD_of_getBit a j i hi, ← getLsbD_of_getBit b j i hi] at bit
  simpa [hj, hi] using bit

theorem getD_getElem?_messageOfBytes (vs : List Byte) (short : vs.length ≤ 11) (j : Nat) :
    ((messageOfBytes vs)[j]?).getD 0 = vs.getD j 0 := by
  obtain inside | behind := lt_or_ge j 11
  · interval_cases j <;> rfl
  · rw [Vector.getElem?_eq_none behind, List.getD_eq_default _ _ (short.trans behind), Option.getD_none]

/-- R62, R292: bytes staged in an empty buffer are its bytes, zeros after them. -/
theorem orBits_zeroBuf_bytesBits {vs : List Byte} (short : vs.length ≤ 11) :
    orBits zeroBuf 0 (bytesBits vs) = messageOfBytes vs := by
  refine eq_of_getBit_eq fun k => ?_
  have place : 8 * (k / 8) + k % 8 = k := Nat.div_add_mod k 8
  have bit := getD_bytesBits vs (k / 8) (Nat.mod_lt k (by decide : 0 < 8))
  rw [place] at bit
  rw [getBit_orBits _ _ _ _ (by rw [length_bytesBits]; omega), getBit_zeroBuf, Nat.sub_zero, bit, getBit,
    getD_getElem?_messageOfBytes vs short]
  simp

/-- R111: bytes followed by their XOR have XOR zero. -/
theorem accumulate_append_accumulate (bs : List Byte) : accumulate 0 (bs ++ [accumulate 0 bs]) = 0 := by
  rw [accumulate_append, accumulate_cons, accumulate_nil, BitVec.xor_self]
  rfl

/-- R173, R302: staged in an empty buffer, the reply fits whole. -/
theorem State.stageCapability_of_empty {s : State} (empty : s.out = zeroBuf) (start : s.outCursor = 0) :
    s.stageCapability = { s with
      out := messageOfBytes (capBytes s.cfg ++ [accumulate 0 (capBytes s.cfg)]), outCursor := 80,
      hasOutboundData := true } := by
  have fit : s.outFit 10 = 10 := by rw [State.outFit, start]; rfl
  have length : (capBytes s.cfg ++ [accumulate 0 (capBytes s.cfg)]).length = 10 := rfl
  rw [State.stageCapability, State.queueBytes_spec, length, fit, List.take_of_length_le length.le, empty, start,
    orBits_zeroBuf_bytesBits (length.le.trans (by decide)), List.replicate_zero, List.append_nil]
  rfl

/-- Settles O12: on an empty buffer the reply is staged whole, its last byte the XOR of the others; a bad payload is only
logged. -/
theorem capabilityRequestStagesTheReply : Obligations.CapabilityRequestStagesTheReply := by
  unfold Obligations.CapabilityRequestStagesTheReply
  refine ⟨?_, fun v s bad => ?_⟩
  · intro s empty start d x
    have sum : accumulate 0 (capBytes s.cfg) = x := by
      simp only [capBytes, accumulate_cons, accumulate_nil, BitVec.ofNat_eq_ofNat, BitVec.zero_xor, x, d]
    refine ⟨?_, ?_⟩
    · rw [exec, execCapreq, if_pos rfl, State.stageCapability_of_empty empty start, sum, State.packetDone_none]
      rfl
    · have zero := accumulate_append_accumulate (capBytes s.cfg)
      rw [sum] at zero
      exact zero
  · rw [exec, execCapreq, if_neg bad, State.raiseError_capBadPayload, State.packetDone_none]
    rfl

/-! ## The commands that queue nothing (R293, R312) -/

/-- Settles O44: the main turn is the command, and the command is one field's update. -/
theorem finalizeAndChecksumQuery : Obligations.FinalizeAndChecksumQuery := by
  unfold Obligations.FinalizeAndChecksumQuery
  intro r s cs sees idle
  exact ⟨fun next => State.step_eq_hostCommand sees idle next, fun next => State.step_eq_hostCommand sees idle next⟩

end Sys2Proof.Machine

/-! PROOF. What no step writes, the configuration (R36, R392), and the host program that a step only takes from; when a byte
source runs dry, which is the machine's one stop and the polled variant's alone (R331, R382); and the Event Queue as the host
pops it (R311). -/

namespace Sys2Proof.Machine

/-! ## The configuration and the host program (R310, R392) -/

/-- From `s` to `t` the configuration is the same, and the host's commands are those still to come, from the front on. -/
def State.KeepsProgram (s t : State) : Prop := t.cfg = s.cfg ∧ t.cmds <:+ s.cmds

theorem State.KeepsProgram.refl (s : State) : s.KeepsProgram s := ⟨rfl, List.suffix_rfl⟩

theorem State.KeepsProgram.trans {s t u : State} (h : s.KeepsProgram t) (h' : t.KeepsProgram u) : s.KeepsProgram u := by
  obtain ⟨cfg_eq, cmds_suffix⟩ := h
  obtain ⟨cfg_eq', cmds_suffix'⟩ := h'
  exact ⟨cfg_eq'.trans cfg_eq, cmds_suffix'.trans cmds_suffix⟩

/-- Commands that fit still do when some of them have been taken. -/
theorem State.KeepsProgram.commandsFit {s t : State} (h : s.KeepsProgram t) (fit : s.commandsFit) : t.commandsFit := by
  obtain ⟨cfg_eq, cmds_suffix⟩ := h
  intro c pending
  rw [cfg_eq]
  exact fit c (cmds_suffix.mem pending)

theorem State.Handles.keepsProgram {s t : State} (h : s.Handles t) : s.KeepsProgram t := by
  obtain ⟨_, _, _, _, _, _, _, rfl⟩ := h.frame
  exact .refl s

theorem exec_keepsProgram {i : Instr} {s t : State} (done : exec i s = .next t) : s.KeepsProgram t := by
  obtain ⟨-, rfl⟩ | ⟨s', ty, p, e, handled, rfl, -, -⟩ := exec_cases done
  · exact .refl s
  · obtain ⟨_, _, counted⟩ := s'.packetDone_frame ty p e
    rw [counted]
    exact handled.keepsProgram

theorem State.decodeStep_keepsProgram {s t : State} (done : s.decodeStep = .next t) : s.KeepsProgram t := by
  obtain ⟨-, done⟩ | ⟨-, -, done | done⟩ := State.decodeStep_cases done
  · obtain ⟨_, _, _, _, _, taken, rfl⟩ := State.checksumStep_cases done
    obtain ⟨_, _, _, _, rfl⟩ := State.takeByte_frame taken
    exact .refl s
  · obtain ⟨_, _, taken, rfl⟩ := State.drainStep_cases done
    obtain ⟨_, _, _, _, rfl⟩ := State.takeByte_frame taken
    exact .refl s
  · obtain ⟨_, _, _, _, fetched, -, done⟩ := State.packetStep_cases done
    obtain ⟨_, _, -, -, _, _, _, _, rfl⟩ := State.fetchPacket_frame fetched
    have kept := exec_keepsProgram done
    exact kept

theorem State.keepsProgram_framingError (s : State) {e : ErrorClass} (framing : e.isFraming) :
    s.KeepsProgram (s.raiseError e) := by
  cases variant : s.cfg.variant with
  | polled =>
    obtain rfl | rfl := framing
    · rw [s.raiseError_timing_polled variant]; exact .refl s
    · rw [s.raiseError_reset_polled variant]; exact .refl s
  | edgeDriven =>
    obtain reset | reset := State.raiseError_framing_edge framing variant
    all_goals rw [reset]; exact .refl s

theorem State.keepsProgram_polledBranch (s : State) : s.KeepsProgram s.polledBranch := by
  obtain h | h | h | h := s.polledBranch_cases
  all_goals rw [h]; exact .refl s

theorem State.keepsProgram_decodeNext (s : State) : s.KeepsProgram s.decodeNext := by
  obtain ⟨-, h⟩ | ⟨-, h⟩ := s.decodeNext_cases
  all_goals rw [h]; exact .refl s

theorem State.hostCommand_keepsProgram {s t : State} {c : Command} (done : s.hostCommand c = .next t) :
    s.KeepsProgram t := by
  obtain handled | rfl | rfl | ⟨-, rfl⟩ | ⟨-, rfl⟩ | rfl := State.hostCommand_cases done
  · exact handled.keepsProgram
  · obtain ⟨_, _, -, popped⟩ := s.nextEvent_frame
    rw [popped]
    exact .refl s
  · exact .refl s
  · exact .refl s
  · exact s.keepsProgram_decodeNext
  · exact .refl s

/-- An idle main turn takes the host's next command, or there is none (R76, R310). -/
theorem State.mainTurn_of_idle {s : State} (idle : s.activity = .idle) :
    (s.cmds = [] ∧ s.mainTurn = .next s) ∨
      ∃ c cs, s.cmds = c :: cs ∧ s.mainTurn = State.hostCommand { s with cmds := cs } c := by
  rw [State.mainTurn, idle]
  cases s.cmds with
  | nil => exact .inl ⟨rfl, rfl⟩
  | cons c cs => exact .inr ⟨c, cs, rfl, rfl⟩

theorem State.mainTurn_keepsProgram {s t : State} (done : s.mainTurn = .next t) : s.KeepsProgram t := by
  obtain ⟨-, done⟩ | ⟨-, done⟩ | ⟨-, rfl⟩ | ⟨-, done⟩ | ⟨-, done⟩ | ⟨idle, -⟩ := State.mainTurn_cases done
  · obtain ⟨ps, rfl | ⟨e, framing, rfl⟩⟩ := State.polledPresync_cases done
    · exact .refl s
    · exact State.keepsProgram_framingError _ framing
  · obtain ⟨ps, rfl | ⟨e, framing, rfl⟩⟩ := State.polledSync_cases done
    · exact .refl s
    · exact State.keepsProgram_framingError _ framing
  · exact .refl s
  · obtain ⟨f, ps, rfl⟩ := State.polledPlayerHeader_cases done
    exact State.keepsProgram_polledBranch _
  · exact State.decodeStep_keepsProgram done
  · obtain ⟨-, same⟩ | ⟨c, cs, next, command⟩ := State.mainTurn_of_idle idle
    · obtain rfl := Host.Outcome.next.inj (same.symm.trans done)
      exact .refl s
    · have taken : s.KeepsProgram { s with cmds := cs } := ⟨rfl, next ▸ List.suffix_cons c cs⟩
      exact taken.trans (State.hostCommand_keepsProgram (command.symm.trans done))

theorem State.keepsProgram_interruptTurn (s : State) : s.KeepsProgram s.interruptTurn :=
  have writes := s.interruptWrites_interruptTurn
  ⟨writes.keeps State.cfg, writes.keeps State.cmds ▸ List.suffix_rfl⟩

theorem step_keepsProgram {s t : State} (done : step s = .next t) : s.KeepsProgram t := by
  obtain ⟨ts, -, rfl⟩ | ⟨ts, done⟩ | ⟨ts, rfl⟩ := step_cases done
  · exact .refl s
  · have kept := State.mainTurn_keepsProgram done
    exact kept
  · exact State.keepsProgram_interruptTurn _

/-- Settles O50: no agent's turn writes the configuration. -/
theorem configurationIsNeverWritten : Obligations.ConfigurationIsNeverWritten :=
  fun _ _ done => (step_keepsProgram done).1

/-! ## A byte source that runs dry (R152, R153, R382) -/

theorem readBits_eq_none (t : RangeTable) {n i : Nat} {v : Byte} {ps : List Nat} (short : ps.length < n) :
    readBits t n i v ps = none := by
  induction n generalizing i v ps with
  | zero => exact absurd short (Nat.not_lt_zero _)
  | succ n ih =>
    cases ps with
    | nil => rfl
    | cons p ps => exact ih (Nat.lt_of_succ_lt_succ short)

/-- R152: a byte of the bus is eight cells, or there are fewer. -/
theorem readBusByte_cases (t : RangeTable) (ps : List Nat) :
    (ps.length < 8 ∧ readBusByte t ps = none) ∨ (8 ≤ ps.length ∧ ∃ b, readBusByte t ps = some (b, ps.drop 8)) := by
  obtain short | enough := lt_or_ge ps.length 8
  · exact .inl ⟨short, readBits_eq_none t short⟩
  · obtain ⟨b, read, -⟩ := readBusByte_spec t enough
    exact .inr ⟨enough, b, read⟩

/-- The decode's source has fewer than `n` bytes to come: it is the bus, and the pulses end before. A captured message never
runs out (R74). -/
def State.RunsOut (s : State) (n : Nat) : Prop := s.src = .bus ∧ s.pulses.length < 8 * n

theorem State.RunsOut.mono {s : State} {m n : Nat} (h : s.RunsOut m) (hmn : m ≤ n) : s.RunsOut n :=
  ⟨h.1, h.2.trans_le (Nat.mul_le_mul_left 8 hmn)⟩

theorem State.takeByte_eq_none_iff {s : State} : s.takeByte = none ↔ s.RunsOut 1 := by
  unfold State.takeByte State.RunsOut
  cases s.src with
  | bus =>
    obtain ⟨short, read⟩ | ⟨enough, b, read⟩ := readBusByte_cases s.cfg.ranges s.pulses
    · simp [read, short]
    · simp [read, enough]
  | captured m => cases byte : m[s.readIdx]? <;> simp [byte]

/-- A byte taken is one byte fewer to come. -/
theorem State.runsOut_of_takeByte {s s1 : State} {b : Byte} (taken : s.takeByte = some (b, s1)) (n : Nat) :
    s1.RunsOut n ↔ s.RunsOut (n + 1) := by
  obtain ⟨bus, ps, read, rfl⟩ | ⟨m, captured, -, rfl⟩ | ⟨m, captured, -, -, rfl⟩ := State.takeByte_cases taken
  · obtain ⟨-, noByte⟩ | ⟨enough, b', read'⟩ := readBusByte_cases s.cfg.ranges s.pulses
    · rw [noByte] at read; cases read
    · rw [read'] at read
      cases read
      simp only [State.RunsOut, bus, List.length_drop, true_and]
      omega
  · simp [State.RunsOut, captured]
  · simp [State.RunsOut, captured]

theorem State.takeBytes_eq_none_iff {s : State} {n : Nat} : s.takeBytes n = none ↔ s.RunsOut n := by
  induction n generalizing s with
  | zero => simp [State.takeBytes, State.RunsOut]
  | succ n ih =>
    rw [State.takeBytes]
    cases first : s.takeByte with
    | none =>
      have dry := State.takeByte_eq_none_iff.mp first
      simpa using dry.mono (Nat.le_add_left 1 n)
    | some byte =>
      obtain ⟨b, s1⟩ := byte
      rw [← State.runsOut_of_takeByte first n, ← ih]
      cases others : s1.takeBytes n <;> simp [others]

/-- R105: the longest packet is ten bytes. -/
theorem payloadBytes_le (t : Byte) : payloadBytes t ≤ 9 := by
  obtain ⟨i, -, enc⟩ := exists_encode_eq (t := t) (List.length_replicate (n := payloadBytes t) (a := 0))
  have bound := length_encode_le i
  rw [enc, List.length_cons, List.length_replicate] at bound
  omega

/-- R116, R382: a packet is cut short at its type byte or in its payload. -/
theorem State.fetchPacket_eq_none_iff {s : State} :
    s.fetchPacket = none ↔ s.RunsOut 1 ∨ ∃ ty s1, s.takeByte = some (ty, s1) ∧ s.RunsOut (payloadBytes ty + 1) := by
  rw [State.fetchPacket, ← State.takeByte_eq_none_iff]
  cases first : s.takeByte with
  | none => simp
  | some byte =>
    obtain ⟨ty, s1⟩ := byte
    have payload := State.takeBytes_eq_none_iff.trans (State.runsOut_of_takeByte first (payloadBytes ty))
    cases others : s1.takeBytes (payloadBytes ty) with
    | none => simpa [others] using payload
    | some bytes => simpa [others] using payload

theorem State.runsOut_of_fetchPacket {s : State} (cut : s.fetchPacket = none) : s.RunsOut 10 := by
  obtain noType | ⟨ty, -, -, noPayload⟩ := State.fetchPacket_eq_none_iff.mp cut
  · exact noType.mono (by decide)
  · exact noPayload.mono (Nat.succ_le_succ (payloadBytes_le ty))

/-! ## Where a polled call is stuck (R382) -/

theorem State.packetStep_of_cut {s : State} (cut : s.fetchPacket = none) : s.packetStep = .fault .stuckNoPulse := by
  simp only [State.packetStep, cut]

/-- With not one byte to come, every iteration of the decode loop is stuck. -/
theorem State.decodeStep_of_runsOut {s : State} (dry : s.RunsOut 1) : s.decodeStep = .fault .stuckNoPulse := by
  have noByte := State.takeByte_eq_none_iff.mpr dry
  unfold State.decodeStep
  split
  · simp only [State.checksumStep, State.readByte, noByte]
  · split
    · simp only [State.drainStep, State.readByte, noByte]
    · exact State.packetStep_of_cut (State.fetchPacket_eq_none_iff.mpr (.inl dry))

theorem State.polledPresync_of_noPulse {s : State} (dry : s.pulses = []) : s.polledPresync = .fault .stuckNoPulse := by
  simp only [State.polledPresync, State.takePulse, dry]

theorem State.polledSync_of_noPulse {s : State} (dry : s.pulses = []) : s.polledSync = .fault .stuckNoPulse := by
  simp only [State.polledSync, State.takePulse, dry]

theorem State.polledPlayerHeader_of_short {s : State} (short : s.pulses.length < 8) :
    s.polledPlayerHeader = .fault .stuckNoPulse := by
  have noByte : readBusByte s.cfg.ranges s.pulses = none := readBits_eq_none _ short
  simp only [State.polledPlayerHeader, noByte]

/-- R382: a packet whose type byte is there and whose payload is not is stuck. -/
theorem State.step_of_cutPayload {r s s1 : State} {ty : Byte} (sees : r.mainSees s) (decoding : s.activity = .decoding)
    (noTerm : s.termSeen = false) (budget : s.cursor < 10) (notDraining : s.draining = false)
    (typeByte : s.takeByte = some (ty, s1)) (noPayload : s1.RunsOut (payloadBytes ty)) :
    step r = .fault .stuckNoPulse := by
  have cut := State.fetchPacket_eq_none_iff.mpr
    (.inr ⟨ty, s1, typeByte, (State.runsOut_of_takeByte typeByte _).mp noPayload⟩)
  exact (State.step_eq_packetStep sees decoding noTerm budget notDraining).trans (State.packetStep_of_cut cut)

/-- Settles O42: each phase needs its pulse or its eight; a packet whose type byte is there needs its payload's. -/
theorem polledCallWithoutPulsesIsStuck : Obligations.PolledCallWithoutPulsesIsStuck := by
  refine ⟨fun r s sees needs => ?_, fun r s ty cells rest sees decoding bus noTerm budget notDraining pulses bits short =>
    State.step_of_cutPayload sees decoding noTerm budget notDraining (State.takeByte_bus bus pulses bits) ⟨bus, short⟩⟩
  obtain ⟨phase | phase, dry⟩ | ⟨phase, short⟩ | ⟨phase, bus, short⟩ := needs
  · exact (State.step_eq_polledPresync sees phase).trans (State.polledPresync_of_noPulse dry)
  · exact (State.step_eq_polledSync sees phase).trans (State.polledSync_of_noPulse dry)
  · exact (State.step_eq_polledPlayerHeader sees phase).trans (State.polledPlayerHeader_of_short short)
  · exact (State.step_eq_decodeStep sees phase).trans (State.decodeStep_of_runsOut ⟨bus, short⟩)

/-! ## What completes (R331) -/

/-- The outcome goes on, or it is the model's named stop, and then `short` says what there was too little of. -/
def CompletesUnless (short : Prop) (o : Host.Outcome State Fault Refusal) : Prop :=
  Completes o ∨ short ∧ o = .fault .stuckNoPulse

theorem CompletesUnless.imp {p q : Prop} {o : Host.Outcome State Fault Refusal} (h : CompletesUnless p o) (hpq : p → q) :
    CompletesUnless q o := h.imp_right fun ⟨hp, stuck⟩ => ⟨hpq hp, stuck⟩

/-- A fetched packet decodes, and every packet completes (R112, R170). -/
theorem State.packetStep_completesUnless (s : State) : CompletesUnless (s.RunsOut 10) s.packetStep := by
  cases fetched : s.fetchPacket with
  | none => exact .inr ⟨State.runsOut_of_fetchPacket fetched, State.packetStep_of_cut fetched⟩
  | some packet =>
    obtain ⟨bs, s1⟩ := packet
    obtain ⟨ty, p, rfl, length, -⟩ := State.fetchPacket_frame fetched
    obtain ⟨i, wf, enc⟩ := exists_encode_eq length
    rw [State.packetStep_of_fetch fetched (enc ▸ decode_encode wf)]
    obtain ⟨t, done, -⟩ := everyPacketCompletesAndIsChecksummed i s1
    exact .inl ⟨t, done⟩

theorem State.decodeStep_completesUnless (s : State) : CompletesUnless (s.RunsOut 10) s.decodeStep := by
  cases taken : s.takeByte with
  | none =>
    have dry := State.takeByte_eq_none_iff.mp taken
    exact .inr ⟨dry.mono (by decide), State.decodeStep_of_runsOut dry⟩
  | some byte =>
    obtain ⟨b, s1⟩ := byte
    unfold State.decodeStep
    split
    · exact .inl ⟨_, State.checksumStep_of_takeByte taken⟩
    · split
      · exact .inl ⟨_, State.drainStep_of_takeByte taken⟩
      · exact s.packetStep_completesUnless

theorem State.polledPresync_completesUnless (s : State) : CompletesUnless (s.pulses = []) s.polledPresync := by
  cases next : s.pulses with
  | nil => exact .inr ⟨rfl, State.polledPresync_of_noPulse next⟩
  | cons d ps =>
    simp only [State.polledPresync, State.takePulse, next]
    cases classifyStart s.cfg.ranges d <;> exact .inl ⟨_, rfl⟩

theorem State.polledSync_completesUnless (s : State) : CompletesUnless (s.pulses = []) s.polledSync := by
  cases next : s.pulses with
  | nil => exact .inr ⟨rfl, State.polledSync_of_noPulse next⟩
  | cons d ps =>
    simp only [State.polledSync, State.takePulse, next]
    cases classifySync s.cfg.ranges d <;> exact .inl ⟨_, rfl⟩

theorem State.polledPlayerHeader_completesUnless (s : State) :
    CompletesUnless (s.pulses.length < 8) s.polledPlayerHeader := by
  obtain ⟨short, -⟩ | ⟨-, b, read⟩ := readBusByte_cases s.cfg.ranges s.pulses
  · exact .inr ⟨short, State.polledPlayerHeader_of_short short⟩
  · exact .inl ⟨_, State.polledPlayerHeader_of_read read⟩

/-- R310: a command that the variant has completes. -/
theorem State.hostCommand_completes {s : State} {c : Command} (fits : Command.inVariant s.cfg.variant c = true) :
    Completes (s.hostCommand c) := by
  cases c with
  | nextEvent => exact ⟨_, rfl⟩
  | hasChecksumError => exact ⟨_, rfl⟩
  | queueOutboundByte v => exact ⟨_, rfl⟩
  | queueOutboundBit b => exact ⟨_, rfl⟩
  | finalizeOutboundMessage => exact ⟨_, rfl⟩
  | pollFrame =>
    cases variant : s.cfg.variant with
    | polled => exact ⟨_, State.hostCommand_pollFrame variant⟩
    | edgeDriven => rw [variant] at fits; cases fits
  | decodeNext =>
    cases variant : s.cfg.variant with
    | polled => rw [variant] at fits; cases fits
    | edgeDriven => exact ⟨_, State.hostCommand_decodeNext variant⟩
  | registerEdgeCallback =>
    cases variant : s.cfg.variant with
    | polled => rw [variant] at fits; cases fits
    | edgeDriven => exact ⟨_, State.hostCommand_registerEdgeCallback variant⟩

/-- The main context waits for the bus, and there are fewer pulses to come than the longest packet has cells. -/
def State.LacksPulses (s : State) : Prop :=
  s.activity ≠ .idle ∧ (s.activity = .decoding → s.src = .bus) ∧ s.pulses.length < 80

/-- The phases of a polled call wait for the bus. -/
theorem State.lacksPulses_of_phase {s : State} {a : Activity} (phase : s.activity = a) (busy : a ≠ .idle)
    (call : a ≠ .decoding) (short : s.pulses.length < 80) : s.LacksPulses :=
  ⟨phase ▸ busy, fun decoding => absurd (phase.symm.trans decoding) call, short⟩

theorem State.mainTurn_completesUnless {s : State} (fit : s.commandsFit) : CompletesUnless s.LacksPulses s.mainTurn := by
  have noneIsShort (dry : s.pulses = []) : s.pulses.length < 80 := dry ▸ Nat.zero_lt_succ 79
  cases phase : s.activity with
  | idle =>
    obtain ⟨-, same⟩ | ⟨c, cs, next, command⟩ := State.mainTurn_of_idle phase
    · exact .inl ⟨s, same⟩
    · rw [command]
      exact .inl (State.hostCommand_completes (fit c (next ▸ List.mem_cons_self)))
  | awaitPresync =>
    rw [State.mainTurn, phase]
    exact s.polledPresync_completesUnless.imp fun dry => State.lacksPulses_of_phase phase nofun nofun (noneIsShort dry)
  | awaitSync =>
    rw [State.mainTurn, phase]
    exact s.polledSync_completesUnless.imp fun dry => State.lacksPulses_of_phase phase nofun nofun (noneIsShort dry)
  | remoteHeader =>
    rw [State.mainTurn, phase]
    exact .inl ⟨_, rfl⟩
  | playerHeader =>
    rw [State.mainTurn, phase]
    exact s.polledPlayerHeader_completesUnless.imp fun short =>
      State.lacksPulses_of_phase phase nofun nofun (short.trans (by decide))
  | decoding =>
    rw [State.mainTurn, phase]
    exact s.decodeStep_completesUnless.imp fun ⟨bus, short⟩ => ⟨phase ▸ nofun, fun _ => bus, short⟩

/-- A step is the turn of some agent, which sees the machine without the head of the schedule. -/
theorem step_eq_turn (s : State) : ∃ ts agent, step s = State.turn { s with sched := ts } agent := by
  unfold step State.nextTurn
  cases sched : s.sched with
  | nil =>
    have same : s = { s with sched := [] } := by rw [← sched]
    exact ⟨[], s.defaultTurn, by rw [← same]⟩
  | cons agent ts => exact ⟨ts, agent, rfl⟩

theorem step_completesUnless {s : State} (fit : s.commandsFit) : CompletesUnless s.LacksPulses (step s) := by
  obtain ⟨ts, agent, turn⟩ := step_eq_turn s
  rw [turn]
  cases agent with
  | interrupt => exact .inl ⟨_, rfl⟩
  | powerOn => exact .inl ⟨_, rfl⟩
  | main =>
    have seen : State.commandsFit { s with sched := ts } := fit
    exact State.mainTurn_completesUnless seen

/-- A step that completes leaves commands that fit. -/
theorem exists_commandsFit_of_completes {s : State} (fit : s.commandsFit) (completes : Completes (step s)) :
    ∃ t, step s = .next t ∧ t.commandsFit := by
  obtain ⟨t, done⟩ := completes
  exact ⟨t, done, (step_keepsProgram done).commandsFit fit⟩

/-- R8, R210: by the invariant, only the polled machine waits for the bus. -/
theorem State.Inv.polled_of_lacksPulses {s : State} (h : s.Inv) (lacks : s.LacksPulses) : s.cfg.variant = .polled := by
  obtain ⟨busy, bus, -⟩ := lacks
  by_cases decoding : s.activity = .decoding
  · have fits := h.decodeSource decoding
    simpa only [State.sourceFits, bus decoding] using fits
  · exact h.polledPhase busy decoding

/-- Settles O53: the one thing that stops a machine is the want of pulses, and edge-driven it waits for none. -/
theorem edgeDrivenMachineNeverStops : Obligations.EdgeDrivenMachineNeverStops := by
  unfold Obligations.EdgeDrivenMachineNeverStops
  intro s edge inv fit
  obtain completes | ⟨lacks, -⟩ := step_completesUnless fit
  · exact exists_commandsFit_of_completes fit completes
  · exact absurd ((inv.polled_of_lacksPulses lacks).symm.trans edge) nofun

/-- Settles O54: a step completes or is stuck for want of pulses, and 80 are enough. -/
theorem polledMachineStopsOnlyWithoutPulses : Obligations.PolledMachineStopsOnlyWithoutPulses := by
  unfold Obligations.PolledMachineStopsOnlyWithoutPulses
  intro s _ fit
  obtain completes | ⟨⟨-, -, short⟩, stuck⟩ := step_completesUnless fit
  · have goesOn := exists_commandsFit_of_completes fit completes
    exact ⟨fun _ => goesOn, .inl goesOn⟩
  · exact ⟨fun enough => absurd short (Nat.not_lt.mpr enough), .inr stuck⟩

/-! ## The Event Queue as the host pops it (R66, R311) -/

theorem State.nextEvent_of_empty {s : State} (empty : s.evCount = 0) : s.nextEvent = s.respond .empty := if_pos empty

theorem State.nextEvent_of_queued {s : State} (queued : 0 < s.evCount) (inQueue : s.evCount - 1 < 10) :
    s.nextEvent = { s with
      evCount := s.evCount - 1, results := s.results ++ [.event s.evq[s.evCount - 1]] } := by
  rw [State.nextEvent, if_neg queued.ne', Vector.getElem?_eq_getElem inQueue]
  rfl

theorem State.pushEvent_of_room {s : State} (room : s.evCount < 10) {e : RemoteEvent} (event : e ≠ .none) :
    s.pushEvent e = { s with evq := s.evq.setIfInBounds s.evCount e, evCount := s.evCount + 1 } := by
  obtain ⟨-, noEvent | full⟩ | ⟨-, -, pushed⟩ := s.pushEvent_cases e
  · exact absurd noEvent event
  · exact absurd room (Nat.not_lt.mpr full)
  · exact pushed

/-- R311: the event on top is the one just pushed. -/
theorem State.nextEvent_of_pushed {s : State} (room : s.evCount < 10) (e : RemoteEvent) :
    State.nextEvent { s with evq := s.evq.setIfInBounds s.evCount e, evCount := s.evCount + 1 } =
      { s with evq := s.evq.setIfInBounds s.evCount e, results := s.results ++ [.event e] } := by
  rw [State.nextEvent_of_queued (Nat.succ_pos s.evCount) (by exact room)]
  simp

/-- Settles O45: the main turn is the command, which pops what is on top, if there is anything. -/
theorem eventsPopNewestFirst : Obligations.EventsPopNewestFirst := by
  unfold Obligations.EventsPopNewestFirst
  refine ⟨fun r s cs e sees idle next room event => ?_, fun r s cs sees idle next queued inQueue => ?_,
    fun r s cs sees idle next empty => ?_⟩
  · rw [State.pushEvent_of_room room event] at sees
    rw [State.step_eq_hostCommand sees (by exact idle) (by exact next)]
    exact congrArg Host.Outcome.next (State.nextEvent_of_pushed (s := { s with cmds := cs }) room e)
  · rw [State.step_eq_hostCommand sees idle next]
    exact congrArg Host.Outcome.next (State.nextEvent_of_queued (s := { s with cmds := cs }) queued inQueue)
  · rw [State.step_eq_hostCommand sees idle next]
    exact congrArg Host.Outcome.next (State.nextEvent_of_empty (s := { s with cmds := cs }) empty)

end Sys2Proof.Machine
